-- ==== Sys2Proof/Word.lean ====
section
/-! DEFINITION. The words of the part: octets, sequence numbers, local time and the Ethernet fields (conventions of
spec/00_scope.md section 5). Byte order and every other conversion stand in Machine/Octets.lean. -/

namespace Sys2Proof

/-- One octet, bit 7 most significant (00_scope 5.2). -/
abbrev Octet := BitVec 8

/-- A transport sequence number or probe number, modulo 65536 (00_scope 5.3). -/
abbrev Seq := BitVec 16

/-- A value of local time: 32 bits, 100 ns units, wrapping (R170, 00_scope 5.3). -/
abbrev Time := BitVec 32

/-- A 48-bit Ethernet address. -/
abbrev MacAddr := BitVec 48

/-- A 32-bit wrapping event counter (section 11.3). -/
abbrev Counter := BitVec 32

/-- Circuit n is bound to tributary line n, n in 0..15 (00_scope 5.4). -/
abbrev CircuitId := Fin 16

end Sys2Proof
end

