-- ==== Sys2Proof/Syntax.lean ====
section
/-! DEFINITION. The commands of the block, one constructor per row of spec/opcode_table.json, and the plain data their
operands and the command frames are made of. -/

namespace Sys2Proof

/-- The two control ports, one per controller card (00_scope 2.1). -/
inductive Port where
  | cp0
  | cp1
  deriving DecidableEq, Repr

/-- The two Ethernet paths (00_scope 2.1). -/
inductive Path where
  | x
  | y
  deriving DecidableEq, Repr

/-- The port that is not `p`. -/
def Port.other : Port → Port
  | .cp0 => .cp1
  | .cp1 => .cp0

/-- "The other path" is Y for X and X for Y (00_scope 5.4). -/
def Path.other : Path → Path
  | .x => .y
  | .y => .x

/-- One value for each control port. -/
structure PerPort (α : Type) where
  cp0 : α
  cp1 : α
  deriving DecidableEq, Repr

/-- One value for each path. -/
structure PerPath (α : Type) where
  x : α
  y : α
  deriving DecidableEq, Repr

variable {α : Type}

def PerPort.get (v : PerPort α) : Port → α
  | .cp0 => v.cp0
  | .cp1 => v.cp1

def PerPort.set (v : PerPort α) (p : Port) (a : α) : PerPort α :=
  match p with
  | .cp0 => { v with cp0 := a }
  | .cp1 => { v with cp1 := a }

/-- The same value for both ports. -/
def PerPort.both (a : α) : PerPort α := ⟨a, a⟩

def PerPath.get (v : PerPath α) : Path → α
  | .x => v.x
  | .y => v.y

def PerPath.set (v : PerPath α) (π : Path) (a : α) : PerPath α :=
  match π with
  | .x => { v with x := a }
  | .y => { v with y := a }

/-- The same value for both paths. -/
def PerPath.both (a : α) : PerPath α := ⟨a, a⟩

/-- A command frame: its code octet and its parameter octets. The length octet is the number of parameter
octets (section 3.5, R54). -/
structure CommandFrame where
  code : Octet
  params : List Octet
  deriving DecidableEq, Repr

/-- Line modes (R1). -/
inductive LineMode where
  | unstructured
  | structured
  deriving DecidableEq, Repr

/-- The layout group of a circuit record (R1). The slot list is empty in UNSTRUCTURED mode. -/
structure Layout where
  mode : LineMode
  slots : List Nat
  fpp : Nat
  k : Nat
  localTag : Nat
  remoteTag : Nat
  acqLimit : Nat
  lossThreshold : Nat
  deriving DecidableEq, Repr

/-- The commands and events of the part, one constructor per row of spec/opcode_table.json, in the table's order.
Operands name what the event brings from outside (an octet, a bit, a frame, a pin level) and where it happens (a port, a
path, a circuit or its line). An owner's command names the port whose frame the owner serves: its parameter octets are those of
the frame that the port handed on and that waits with the owner in the state (assumption 2). -/
inductive Instr where
  | deviceReset
  | startUpEnd
  | transactionStart (p : Port)
  | statusOctetSent (p : Port)
  | resultOctetSent (p : Port)
  | transactionEnd (p : Port)
  | commandFrameComplete (p : Port)
  | resultArrival (p : Port)
  | fetchChallenge (p : Port)
  | submitAnswer (p : Port)
  | readSupervision (p : Port)
  | configureSupervision (p : Port)
  | windowTimerExpiry (p : Port)
  | crstTimerExpiry (p : Port)
  | takeAuthority (p : Port)
  | yieldAuthority (p : Port)
  | collectAttention (p : Port)
  | openCircuit (p : Port)
  | closeCircuit (p : Port)
  | holdCircuit (p : Port)
  | resumeCircuit (p : Port)
  | readCircuit (p : Port)
  | setTiming (p : Port)
  | setPaths (p : Port)
  | setProbing (p : Port)
  | setPlayout (p : Port)
  | readPlayout (p : Port)
  | readTiming (p : Port)
  | readPaths (p : Port)
  | readDelay (p : Port)
  | readCounters (p : Port)
  | configureReference (p : Port)
  | readReference (p : Port)
  | configurePath (p : Port)
  | acquisitionComplete (c : CircuitId)
  | underrun (c : CircuitId)
  | overrun (c : CircuitId)
  | drainComplete (c : CircuitId)
  | drainLimitExpiry (c : CircuitId)
  | acquisitionTimerExpiry (c : CircuitId)
  | receiveFrameBoundary (c : CircuitId)
  | receiveClockLoss (c : CircuitId)
  | losSet (c : CircuitId)
  | losClear (c : CircuitId)
  | aisSpanEnd (c : CircuitId)
  | framerSearchOctet (c : CircuitId)
  | framerVerifyTest (c : CircuitId)
  | framerAlignedCompare (c : CircuitId)
  | lossOfAlignment (c : CircuitId)
  | transmitFrameBoundary (c : CircuitId)
  | linkEvent (π : Path) (up : Bool)
  | frameDeparture (π : Path)
  | frameReceived (π : Path) (octets : List Octet)
  | probeTimerExpiry (c : CircuitId)
  | referenceWindowStart
  | referenceWindowCompletion
  | absenceExpiry
  | resetNRelease
  | writtenOctet (p : Port) (o : Octet)
  | receiveBitPeriod (c : CircuitId) (mark : Bool)
  | receiveClockReturn (c : CircuitId) (mark : Bool)
  | refEdge
  deriving DecidableEq, Repr

end Sys2Proof
end

