-- ==== Sys2Proof/Decode.lean ====
section
/-! DEFINITION. What a word spells. The rows of spec/opcode_table.json give no bits (no "fixed" and no "fields"), so no word
spells a row. The part's own codes, those of the command code table (section 9.6), are decoded here. -/

namespace Sys2Proof

/-- The command a word spells by the bits of spec/opcode_table.json. No row of the table gives bits, so every word spells none. -/
def decodeTableWord (_nbits _w : Nat) : Option Instr := none

/-- The command code table (section 9.6): the owner's command that the code octet of a frame from port `p` names. -/
def commandOf (code : Octet) (p : Port) : Option Instr :=
  match code.toNat with
  | 0x01 => some (.fetchChallenge p)
  | 0x02 => some (.submitAnswer p)
  | 0x03 => some (.readSupervision p)
  | 0x04 => some (.configureSupervision p)
  | 0x05 => some (.takeAuthority p)
  | 0x06 => some (.yieldAuthority p)
  | 0x08 => some (.collectAttention p)
  | 0x10 => some (.openCircuit p)
  | 0x11 => some (.closeCircuit p)
  | 0x12 => some (.holdCircuit p)
  | 0x13 => some (.resumeCircuit p)
  | 0x14 => some (.setTiming p)
  | 0x15 => some (.setPaths p)
  | 0x16 => some (.setProbing p)
  | 0x17 => some (.setPlayout p)
  | 0x18 => some (.readCircuit p)
  | 0x19 => some (.readPlayout p)
  | 0x1A => some (.readTiming p)
  | 0x1B => some (.readPaths p)
  | 0x1C => some (.readDelay p)
  | 0x1D => some (.readCounters p)
  | 0x20 => some (.configureReference p)
  | 0x21 => some (.readReference p)
  | 0x22 => some (.configurePath p)
  | _ => none

/-- The command codes marked privileged in section 9.6. -/
def privileged (code : Octet) : Bool :=
  match code.toNat with
  | 0x10 | 0x11 | 0x12 | 0x13 | 0x14 | 0x15 | 0x16 | 0x17 | 0x20 | 0x22 => true
  | _ => false

end Sys2Proof
end

