-- ==== Sys2Proof/Config.lean ====
section
/-! DEFINITION. The constants of the part and the choices the spec leaves free. -/

namespace Sys2Proof.Config

/-- Attention records a queue holds (R169). -/
def attentionCapacity : Nat := 48

/-- Entries a transmit queue holds (R59). -/
def queueCapacity : Nat := 64

/-- Queue depth at which a probe is held back (R132). -/
def probeHoldDepth : Nat := 32

/-- Blocks of the buffer pool (R10). -/
def poolBlocks : Nat := 2048

/-- Local time units, 100 ns each, in 1 ms. -/
def unitsPerMs : Nat := 10000

/-- Local time units in 10 ms, the unit of the acquisition limit and of the probe interval (R93, R131). -/
def unitsPer10Ms : Nat := 100000

/-- Local time units from the release of RESET_N to the end of START-UP: 1 ms (R144). -/
def startUpUnits : Nat := 10000

/-- Local time units that CRST is held low: 10 ms (R164). -/
def crstUnits : Nat := 100000

/-- Local time units of a reference window: one second (R121). -/
def refWindowUnits : Nat := 10000000

/-- Local time units of the absence timer: 10 µs (R123). -/
def absenceUnits : Nat := 100

/-- REF edges in a window of a clock exactly at 2048 kHz (R122). -/
def refNominal : Int := 2048000

/-- What one local time unit adds to the phase of a clock at 2,048,000 Hz, in units of 1/10000 bit period. -/
def bitPhasePerUnit : Nat := 2048

/-- The phase of one nominal bit period, in the units of `bitPhasePerUnit`. -/
def bitPhase : Nat := 10000

/-- The phase of one transmit frame of 256 bits. One local time unit adds `10^9 + C` to it, so that a frame lasts
`125 µs / (1 + C / 10^9)` (R100): 1250 units of local time at C = 0. -/
def framePhase : Nat := 1250000000000

/-- The phase of one transmit bit period, the 256th part of `framePhase` (R34). -/
def txBitPhase : Nat := 4882812500

/-- Nanoseconds of one local time unit (00_scope 5.3). -/
def unitNs : Nat := 100

/-- Nanoseconds of one octet time at 100 Mbit/s (R60). -/
def octetNs : Nat := 80

/-- Nanoseconds from the last octet of one frame to the first destination address octet of the next: the gap of 12 octet times
(R60) and the 8 octets of preamble and start delimiter (section 3.8). -/
def interFrameNs : Nat := 1600

/-- Which of the internal steps that are due at one instant is taken first. The spec leaves it open (R20, R73, R99, R119, R129,
R143, R154, R168: "either"), so nothing is known of this choice. Applied to the counter `State.freeCount`
(assumption 4). -/
opaque pickDue : Nat → Nat

/-- Whether path X takes the lower probe number when one due instant hands a probe to both paths: "either path may take the lower
one" (R133). Nothing is known of this choice. Applied to the counter `State.freeCount` (assumption 5). -/
opaque xTakesLowerProbe : Nat → Bool

end Sys2Proof.Config
end

