-- ==== Sys2Proof/Machine/State.lean ====
section
/-! DEFINITION. The state of the part, block by block as 00_scope 2.2 lists them, all of it plain data, and its value right
after device reset. -/

namespace Sys2Proof.Machine

/-! ### Attention units (chapter 11) -/

/-- Who an attention record is about (section 3.7). -/
inductive Source where
  | circuit (c : CircuitId)
  | path (π : Path)
  | reference
  | port (p : Port)
  deriving DecidableEq, Repr

/-- The kinds of attention record (section 3.7). -/
inductive AttnKind where
  | circuitState
  | acquireTimeout
  | underrun
  | overrun
  | lineAlarm
  | remoteFault
  | pathHealth
  | txPathChange
  | delayLimit
  | asymmetry
  | loopSaturation
  | referenceState
  | authority
  | supervision
  deriving DecidableEq, Repr

/-- An attention record (section 3.7, section 11.1). -/
structure AttnRecord where
  source : Source
  kind : AttnKind
  count : Nat
  latest : BitVec 16
  firstTime : Time
  deriving DecidableEq, Repr

/-- The attention queue of one port, oldest record first, and its overflow marker (R169). -/
structure AttnUnit where
  queue : List AttnRecord
  overflow : Bool
  deriving DecidableEq, Repr

/-! ### Control port units (section 9.1) -/

/-- Where a port stands in the command exchange (R144 to R150). -/
inductive Phase where
  | startUp
  | command
  | executing
  | result
  deriving DecidableEq, Repr

/-- The access kind of a transaction, fixed by its access octet (R145). -/
inductive Access where
  | read
  | write
  deriving DecidableEq, Repr

/-- The transaction in progress (R146): its access kind once the access octet is complete, the phase at its start, the status octet
formed at its start and whether that has been sent whole, whether a frame was completed in it, and whether a controller
reset event has made it void (R151). -/
structure Transaction where
  access : Option Access
  phaseAtStart : Phase
  status : Octet
  statusSent : Bool
  frameTaken : Bool
  voided : Bool
  deriving DecidableEq, Repr

/-- One control port unit (section 9.1). -/
structure PortUnit where
  phase : Phase
  partialFrame : List Octet
  inFlight : Option CommandFrame
  waiting : Option CommandFrame
  orphan : Bool
  result : Option (List Octet)
  readPos : Nat
  framing : Bool
  ignored : Bool
  transaction : Option Transaction
  deriving DecidableEq, Repr

/-- Where the one command of a port that is with the owners stands (R149, R152): its frame waits to be served, or its
result frame is on the way back to the port. -/
inductive Transit where
  | atOwner (f : CommandFrame)
  | returning (r : List Octet)
  deriving DecidableEq, Repr

/-! ### Supervision units (section 10.1) -/

/-- Supervision states (R155). -/
inductive SupState where
  | idle
  | awaitAnswer
  | awaitFetch
  deriving DecidableEq, Repr

/-- Supervision settings (R156). Window times are in ms. -/
structure SupSettings where
  answerOpen : Nat
  answerClose : Nat
  answerGrace : Nat
  fetchOpen : Nat
  fetchClose : Nat
  fetchGrace : Nat
  strict : Bool
  resetOnTimeout : Bool
  resetOnZero : Bool
  goodStep : Nat
  badStep : Nat
  low : Nat
  high : Nat
  key : BitVec 16
  deriving DecidableEq, Repr

/-- One supervision unit (section 10.1). A running timer holds the local time of its start. The flag word is that of section 10.1,
bits 0..10. CRST is low while the CRST timer runs (R164). -/
structure SupUnit where
  state : SupState
  windowTimer : Option Time
  challenge : BitVec 16
  answerCorrect : Bool
  standing : Nat
  eligible : Bool
  flags : BitVec 16
  resetCount : Nat
  crstTimer : Option Time
  settings : SupSettings
  deriving DecidableEq, Repr

/-! ### Circuit settings (R2) -/

/-- Concealment (R89). -/
inductive Concealment where
  | repeatLast
  | fill
  deriving DecidableEq, Repr

structure PlayoutSettings where
  targetDepth : Nat
  concealment : Concealment
  fillOctet : Octet
  suppress : Bool
  deriving DecidableEq, Repr

/-- Timing modes (chapter 6). -/
inductive TimingMode where
  | adaptive
  | station
  deriving DecidableEq, Repr

/-- `lim` in ppb; `m` is the window exponent (section 6.1). -/
structure TimingSettings where
  mode : TimingMode
  lim : Nat
  gp : Nat
  gi : Nat
  m : Nat
  deriving DecidableEq, Repr

/-- Path modes (R67). -/
inductive PathMode where
  | dual
  | single
  deriving DecidableEq, Repr

structure PathSettings where
  mode : PathMode
  preferred : Path
  receiveSet : PerPath Bool
  destination : PerPath MacAddr
  goodStep : Nat
  badStep : Nat
  low : Nat
  high : Nat
  deriving DecidableEq, Repr

/-- `interval` in units of 10 ms, 0 off; the limits in local time units (R141). -/
structure ProbeSettings where
  interval : Nat
  delayLimit : Nat
  asymmetryLimit : Nat
  deriving DecidableEq, Repr

/-! ### The circuit record's status group (R3) -/

/-- Circuit states (R3). -/
inductive CState where
  | closed
  | acquiring
  | running
  | hold
  | closing
  deriving DecidableEq, Repr

/-- A request for underrun: the sequence number of the EMPTY head whose take raised it (R91), and the ports whose Close Circuit for this
circuit had reached the circuit table before the request did, so that the table takes those first (R20; the second field is the MODEL's
own and not the spec's, assumption 24). -/
structure UnderrunRequest where
  head : Seq
  closesAhead : PerPort Bool
  deriving DecidableEq, Repr

/-- Requests that the playout unit has sent to the circuit table and that the table has not taken (R20, R81, R90 to R92): acquisition
complete; underrun with the sequence number of the EMPTY head; overrun with that of the eighth early arrival; drain complete. A change of
the circuit state clears them (DEDUCED, assumption 10). -/
structure Requests where
  acquisitionComplete : Bool
  underrun : Option UnderrunRequest
  overrun : Option Seq
  drainComplete : Bool
  deriving DecidableEq, Repr

/-! ### Tributary line interfaces (chapter 2) -/

/-- Framer states (section 2.3). -/
inductive FramerState where
  | search
  | verify
  | aligned
  | notRequired
  deriving DecidableEq, Repr

/-- The kind of a transmit frame (section 2.5). -/
inductive TxKind where
  | conditioning
  | traffic
  deriving DecidableEq, Repr

/-- One tributary line interface. Receive side: the clock in use and the phase of its bit period (R22); the receive bit count
(R21); the bits of the receive frame period in progress and the bit history, both NEWEST FIRST; LOS and AIS with their
counts (R30, R31); the framer (section 2.3), with whether the first test of VERIFY has passed, the parity of the
aligned frame and whether its slot 0 has been judged. Transmit side: the parity, kind, octets and rate of the
frame in progress and the phase within it (R34, R35). -/
structure Line where
  crystal : Bool
  rxPhase : Nat
  rxCount : Nat
  period : List Bool
  los : Bool
  spaceRun : Nat
  markPeriods : Nat
  ais : Bool
  spanBits : Nat
  spanSpaces : Nat
  prevLow : Bool
  framer : FramerState
  firstTestPassed : Bool
  candidate : Nat
  searchPos : Nat
  history : List Bool
  frameOdd : Bool
  compared : Bool
  erroredRun : Nat
  txOdd : Bool
  txKind : TxKind
  txOctets : List Octet
  txRate : Int
  txPhase : Nat
  deriving DecidableEq, Repr

/-! ### Packetizer (section 3.1) -/

/-- The packetizer's state for one circuit. `collecting` is set at the first receive frame boundary after Open Circuit: the period
in progress at acceptance is not collected (R39). A frame of the accumulator is its octets and its fault mark. -/
structure Packetizer where
  running : Bool
  collecting : Bool
  txSeq : Seq
  accumulator : List (List Octet × Bool)
  deriving DecidableEq, Repr

/-! ### Playout unit (section 5.1) -/

/-- States of a ring slot (section 5.1). -/
inductive SlotKind where
  | empty
  | filled
  | fault
  deriving DecidableEq, Repr

/-- One ring slot (section 5.1). -/
structure RingSlot where
  kind : SlotKind
  seq : Seq
  payload : List (List Octet)
  l : Bool
  r : Bool
  deliveredBy : PerPath Bool
  firstArrival : Time
  deriving DecidableEq, Repr

/-- The playout cursor (section 5.1). A running acquisition timer holds the local time of its start. -/
structure Cursor where
  head : Option Seq
  frameIndex : Nat
  headTaken : Bool
  hi : Option Seq
  filledCount : Nat
  earlyRun : Nat
  missingRun : Nat
  lastPlayed : Option (List Octet)
  acqTimer : Option Time
  lastR : Option Bool
  farL : Option Bool
  mergeSkew : BitVec 32
  leadPath : Option Path
  deriving DecidableEq, Repr

/-! ### Timing unit (section 6.1) -/

/-- The timing state of one circuit. C, I, E16 and P are exact whole numbers. -/
structure Timing where
  c : Int
  i : Int
  sum : Nat
  n : Nat
  lastError : Int
  lastP : Int
  integratorSat : PerPort Bool
  outputSat : PerPort Bool
  deriving DecidableEq, Repr

/-! ### Path health (section 4.5) -/

structure Health where
  count : PerPath Nat
  degraded : PerPath Bool
  active : Path
  deriving DecidableEq, Repr

/-! ### Probe unit (section 8.1) -/

/-- A delay record with its DELAY_LIMIT alarm (section 8.1). -/
structure DelayRecord where
  lastRoundTrip : Nat
  minimum : PerPort (Option Nat)
  smoothed : Option Nat
  sampleCount : Nat
  alarm : Bool
  deriving DecidableEq, Repr

/-- An outstanding probe: its number and its t1 (section 8.1). -/
structure Outstanding where
  number : Seq
  t1 : Time
  deriving DecidableEq, Repr

/-- The probe state of one circuit. A running timer holds the local time of its start. -/
structure Probing where
  timer : Option Time
  number : Seq
  outstanding : PerPath (List Outstanding)
  postponed : PerPath Nat
  record : PerPath DelayRecord
  asymmetryAlarm : Bool
  deriving DecidableEq, Repr

/-! ### Counters (section 11.3) -/

/-- The circuit-and-path counters (section 11.3). -/
structure CpCounters where
  sent : Counter
  txDrops : Counter
  accepted : Counter
  duplicates : Counter
  late : Counter
  early : Counter
  notInReceiveSet : Counter
  probesLost : Counter
  echoesStale : Counter
  echoesImplausible : Counter
  deriving DecidableEq, Repr

/-- The circuit counters (section 11.3). -/
structure CircuitCounters where
  missing : Counter
  concealed : Counter
  faultFrames : Counter
  deriving DecidableEq, Repr

/-! ### A circuit: its record and the state every serving block holds for it -/

/-- Circuit n: its record (R1 to R3; the layout is present from its first opening on) and what the line interface, the
packetizer, the playout unit, the timing unit, path health, the probe unit and the counters hold for it.
`drainFrames` counts the transmit frame boundaries of the packet period in progress in CLOSING (R16). -/
structure Circuit where
  layout : Option Layout
  playoutSet : PlayoutSettings
  timingSet : TimingSettings
  pathSet : PathSettings
  probeSet : ProbeSettings
  state : CState
  holdBarrier : Bool
  blocksHeld : Nat
  drainRemaining : Nat
  drainFrames : Nat
  requests : Requests
  line : Line
  packetizer : Packetizer
  ring : List RingSlot
  cursor : Cursor
  timing : Timing
  health : Health
  probing : Probing
  cpCounters : PerPath CpCounters
  counters : CircuitCounters
  deriving DecidableEq, Repr

/-! ### Path units (section 4.1) -/

/-- Kinds of transport packet (section 3.3). -/
inductive PacketKind where
  | data
  | probe
  | echo
  deriving DecidableEq, Repr

/-- An entry of a transmit queue: the circuit, the kind, the sequence or probe number, the Ethernet header formed on appending, and
the transport header and body. The open timestamp of a PROBE (t1) or an ECHO (t3) is the last field of its body and is
not yet there: it is appended at departure (R59, R60). -/
structure QueueEntry where
  circuit : CircuitId
  kind : PacketKind
  number : Seq
  destination : MacAddr
  source : MacAddr
  typeCode : BitVec 16
  packet : List Octet
  deriving DecidableEq, Repr

/-- One path unit. `linkPin` is the level of LINKX or LINKY. `macFrame` is the frame, check sequence included, that the MAC last
began to send and has not abandoned. `macBusyNs` is the time, from the beginning of this unit of local time, until the MAC can
begin the next. -/
structure PathUnit where
  linkPin : Bool
  linkUp : Bool
  source : MacAddr
  typeCode : BitVec 16
  queue : List QueueEntry
  macFrame : Option (List Octet)
  macBusyNs : Nat
  frameErrors : Counter
  unknownTag : Counter
  format : Counter
  linkDownDrops : Counter
  deriving DecidableEq, Repr

/-! ### Reference monitor (section 7.1) -/

/-- Monitor states (R120). -/
inductive RefState where
  | absent
  | qualifying
  | good
  | outOfRange
  deriving DecidableEq, Repr

/-- A window in progress: its start time and edge count (R121). Without a window no edge count is held, also where table 7.1 lists it as 0 after
device reset (DESIGN CHOICE, assumption 30). -/
structure RefWindow where
  start : Time
  edges : Nat
  deriving DecidableEq, Repr

/-- The reference monitor and the alignment word (section 7.1). A running absence timer holds the local time of its last start. -/
structure RefMonitor where
  state : RefState
  window : Option RefWindow
  qualCount : Nat
  lastCount : Nat
  lastInRange : Option Bool
  lastOffset : Int
  offsetValid : Bool
  absenceTimer : Option Time
  toleranceStored : Nat
  toleranceInUse : Nat
  qStored : Nat
  qInUse : Nat
  alignmentWord : BitVec 7
  deriving DecidableEq, Repr

/-! ### The whole part -/

/-- The state of the part. `resetAsserted` is the RESET_N input; `startUpFrom` holds the local time of its release while the ports are
in START-UP (R144). `freeCount` is the MODEL's own field, not the spec's: it counts the choices the spec leaves free, so that each is
taken afresh from Config (assumptions 4 and 5). `pending` is the queue of commands that wait, first in, first out. -/
structure State where
  localTime : Time
  resetAsserted : Bool
  startUpFrom : Option Time
  ports : PerPort PortUnit
  transit : PerPort (Option Transit)
  sup : PerPort SupUnit
  holder : Option Port
  attn : PerPort AttnUnit
  freeBlocks : Nat
  circuits : Vector Circuit 16
  paths : PerPath PathUnit
  ref : RefMonitor
  freeCount : Nat
  pending : List Instr
  deriving DecidableEq, Repr

/-- No step of this part faults: every command has an effect, or none, in every state. So there is no fault to name
(assumption 19). -/
inductive Fault where
  deriving DecidableEq, Repr

/-- Why a command is refused. -/
inductive Refusal where
  /-- Raised by `exec` for a command that has no meaning yet. Safe: the machine stops. No arm of `exec` raises it. -/
  | notModelled (mnemonic : String)
  deriving DecidableEq, Repr

/-! ### Reset values -/

/-- R155, R156. -/
def SupSettings.reset : SupSettings where
  answerOpen := 20
  answerClose := 100
  answerGrace := 50
  fetchOpen := 20
  fetchClose := 100
  fetchGrace := 50
  strict := false
  resetOnTimeout := false
  resetOnZero := true
  goodStep := 1
  badStep := 2
  low := 4
  high := 10
  key := 0

/-- R155, with the challenge seed of the port. -/
def SupUnit.reset (seed : BitVec 16) : SupUnit where
  state := .idle
  windowTimer := none
  challenge := seed
  answerCorrect := false
  standing := 5
  eligible := false
  flags := 0
  resetCount := 0
  crstTimer := none
  settings := .reset

/-- R144: the port enters START-UP with nothing held. -/
def PortUnit.reset : PortUnit where
  phase := .startUp
  partialFrame := []
  inFlight := none
  waiting := none
  orphan := false
  result := none
  readPos := 0
  framing := false
  ignored := false
  transaction := none

/-- R169. -/
def AttnUnit.reset : AttnUnit where
  queue := []
  overflow := false

/-- R21, R30, R31, R34, section 2.3: the receive count and the transmit frame both begin at device reset; the first transmit
frame is an even conditioning frame at the nominal rate. -/
def Line.reset : Line where
  crystal := false
  rxPhase := 0
  rxCount := 0
  period := []
  los := false
  spaceRun := 0
  markPeriods := 0
  ais := false
  spanBits := 0
  spanSpaces := 0
  prevLow := false
  framer := .search
  firstTestPassed := false
  candidate := 0
  searchPos := 0
  history := []
  frameOdd := false
  compared := false
  erroredRun := 0
  txOdd := false
  txKind := .conditioning
  txOctets := List.replicate 32 0xFF
  txRate := 0
  txPhase := 0

/-- R39. -/
def Packetizer.reset : Packetizer where
  running := false
  collecting := false
  txSeq := 0
  accumulator := []

/-- An EMPTY slot: no payload, no path in its delivered-by set (section 5.1, R75, R90). For the sequence number, L, R and the
first-arrival time of an EMPTY slot the spec gives no value: the model takes 0 for all four, and nothing reads them (DESIGN CHOICE,
assumption 27). -/
def RingSlot.emptySlot : RingSlot where
  kind := .empty
  seq := 0
  payload := []
  l := false
  r := false
  deliveredBy := .both false
  firstArrival := 0

/-- R74. -/
def Cursor.reset : Cursor where
  head := none
  frameIndex := 0
  headTaken := false
  hi := none
  filledCount := 0
  earlyRun := 0
  missingRun := 0
  lastPlayed := none
  acqTimer := none
  lastR := none
  farL := none
  mergeSkew := 0
  leadPath := none

/-- R101. -/
def Timing.reset : Timing where
  c := 0
  i := 0
  sum := 0
  n := 0
  lastError := 0
  lastP := 0
  integratorSat := .both false
  outputSat := .both false

/-- R65. -/
def Health.reset : Health where
  count := .both 12
  degraded := .both false
  active := .x

/-- An empty delay record with its alarm clear (R130). -/
def DelayRecord.reset : DelayRecord where
  lastRoundTrip := 0
  minimum := .both none
  smoothed := none
  sampleCount := 0
  alarm := false

/-- R130. -/
def Probing.reset : Probing where
  timer := none
  number := 0
  outstanding := .both []
  postponed := .both 0
  record := .both .reset
  asymmetryAlarm := false

/-- R173. -/
def CpCounters.reset : CpCounters where
  sent := 0
  txDrops := 0
  accepted := 0
  duplicates := 0
  late := 0
  early := 0
  notInReceiveSet := 0
  probesLost := 0
  echoesStale := 0
  echoesImplausible := 0

/-- R173. -/
def CircuitCounters.reset : CircuitCounters where
  missing := 0
  concealed := 0
  faultFrames := 0

/-- No request outstanding. -/
def Requests.reset : Requests where
  acquisitionComplete := false
  underrun := none
  overrun := none
  drainComplete := false

/-- R2, defaults. -/
def PlayoutSettings.reset : PlayoutSettings where
  targetDepth := 2
  concealment := .repeatLast
  fillOctet := 0xFF
  suppress := false

/-- R2, R101, defaults. -/
def TimingSettings.reset : TimingSettings where
  mode := .adaptive
  lim := 60000
  gp := 40
  gi := 8
  m := 6

/-- R2, defaults. -/
def PathSettings.reset : PathSettings where
  mode := .dual
  preferred := .x
  receiveSet := .both true
  destination := .both 0
  goodStep := 1
  badStep := 2
  low := 6
  high := 12

/-- R2, defaults. -/
def ProbeSettings.reset : ProbeSettings where
  interval := 0
  delayLimit := 100000
  asymmetryLimit := 10000

/-- R1 to R3 and the reset rules of the serving blocks. -/
def Circuit.reset : Circuit where
  layout := none
  playoutSet := .reset
  timingSet := .reset
  pathSet := .reset
  probeSet := .reset
  state := .closed
  holdBarrier := false
  blocksHeld := 0
  drainRemaining := 0
  drainFrames := 0
  requests := .reset
  line := .reset
  packetizer := .reset
  ring := []
  cursor := .reset
  timing := .reset
  health := .reset
  probing := .reset
  cpCounters := .both .reset
  counters := .reset

/-- R57, with the link state read from the level of the PHY input. -/
def PathUnit.reset (linkPin : Bool) : PathUnit where
  linkPin := linkPin
  linkUp := linkPin
  source := 0
  typeCode := 0
  queue := []
  macFrame := none
  macBusyNs := 0
  frameErrors := 0
  unknownTag := 0
  format := 0
  linkDownDrops := 0

/-- R120. -/
def RefMonitor.reset : RefMonitor where
  state := .absent
  window := none
  qualCount := 0
  lastCount := 0
  lastInRange := none
  lastOffset := 0
  offsetValid := false
  absenceTimer := none
  toleranceStored := 102
  toleranceInUse := 102
  qStored := 3
  qInUse := 3
  alignmentWord := 0x1B

/-- The part right after device reset, with RESET_N still asserted (R144; DESIGN CHOICE, assumption 7) and the PHY inputs at the given
levels. Clock phases and bookkeeping that no rule gives a reset value start at zero (DESIGN CHOICE, assumption 21). -/
def State.resetWith (linkPins : PerPath Bool) : State where
  localTime := 0
  resetAsserted := true
  startUpFrom := none
  ports := .both .reset
  transit := .both none
  sup := ⟨.reset 0x1A2B, .reset 0x3C4D⟩
  holder := none
  attn := .both .reset
  freeBlocks := Config.poolBlocks
  circuits := Vector.replicate 16 .reset
  paths := ⟨.reset linkPins.x, .reset linkPins.y⟩
  ref := .reset
  freeCount := 0
  pending := []

/-- The part right after device reset. The spec gives the levels of LINKX and LINKY no value: the model takes both low, link
DOWN (DESIGN CHOICE, assumption 3), and `freeCount` starts at 0 (DESIGN CHOICE, assumption 4). -/
def State.reset : State := .resetWith (.both false)

end Sys2Proof.Machine
end

