-- ==== Sys2Proof/Machine/Octets.lean ====
section
/-! DEFINITION. Byte order, the frame check sequence, bits and octets, rounding, and the codes that results, attention records
and packets carry. -/

namespace Sys2Proof.Machine

/-! ### Octets and numbers -/

/-- The `n` octets of a value, most significant octet first (00_scope 5.2). -/
def be : Nat → Nat → List Octet
  | 0, _ => []
  | n + 1, v => BitVec.ofNat 8 (v / 256 ^ n) :: be n v

/-- The number that octets spell, most significant octet first (00_scope 5.2). -/
def fromBe (os : List Octet) : Nat :=
  os.foldl (fun a o => a * 256 + o.toNat) 0

/-- One octet holding a number. -/
def octet (n : Nat) : Octet := BitVec.ofNat 8 n

/-- One octet: 01h for true, 00h for false. -/
def flagOctet (b : Bool) : Octet := if b then 1 else 0

/-- A signed 32-bit field: two's complement, most significant octet first (R118, R128). -/
def beInt (v : Int) : List Octet := be 4 (BitVec.ofInt 32 v).toNat

/-- An optional 32-bit field: FFFFFFFFh when there is no value (R142). -/
def beOption (v : Option Nat) : List Octet := be 4 (v.getD 0xFFFFFFFF)

/-- A 16-bit latest value made of a high octet and a low octet (section 11.1). -/
def hiLo (hi lo : Nat) : BitVec 16 := BitVec.ofNat 16 (hi * 256 + lo)

/-- An octet's bits, most significant first (00_scope 5.2). -/
def octetBits (o : Octet) : List Bool :=
  [o.getLsbD 7, o.getLsbD 6, o.getLsbD 5, o.getLsbD 4, o.getLsbD 3, o.getLsbD 2, o.getLsbD 1, o.getLsbD 0]

/-- The octet that bits spell, the first bit most significant (R23). -/
def bitsOctet (bits : List Bool) : Octet :=
  bits.foldl (fun a b => (a <<< 1) ||| (if b then 1#8 else 0#8)) 0#8

/-- The first `n` octets of a bit sequence in line order (R23). -/
def bitsOctets : Nat → List Bool → List Octet
  | 0, _ => []
  | n + 1, bits => bitsOctet (bits.take 8) :: bitsOctets n (bits.drop 8)

/-- Cuts a list into `n` pieces of `w`. -/
def chunks {α : Type} : Nat → Nat → List α → List (List α)
  | 0, _, _ => []
  | n + 1, w, l => l.take w :: chunks n w (l.drop w)

/-! ### The frame check sequence (section 3.2) -/

/-- One bit of the CRC: generator polynomial 04C11DB7h. -/
def crcBit (r : BitVec 32) (b : Bool) : BitVec 32 :=
  if (r.getLsbD 31).xor b then (r <<< 1) ^^^ 0x04C11DB7#32 else r <<< 1

/-- One octet of the CRC, least significant bit first. -/
def crcOctet (r : BitVec 32) (o : Octet) : BitVec 32 :=
  (octetBits o).reverse.foldl crcBit r

/-- The check sequence of a frame's octets: remainder preset to FFFFFFFFh, the ones' complement of the final remainder,
highest-order term first. Octets travel least significant bit first on the path, as they enter the CRC, so the term sent
first is bit 0 of the first check octet (DEDUCED, assumption 13). -/
def fcs (os : List Octet) : List Octet :=
  let r := ~~~(os.foldl crcOctet 0xFFFFFFFF#32)
  [24, 16, 8, 0].map fun n => bitsOctet (octetBits ((r >>> n).setWidth 8)).reverse

/-! ### Arithmetic (00_scope 5.3) -/

/-- `a / b` rounded to nearest, ties away from zero, for `b` above 0 (00_scope 5.3). -/
def roundAway (a : Int) (b : Nat) : Int :=
  if 0 ≤ a then ((2 * a.natAbs + b) / (2 * b) : Nat) else -(((2 * a.natAbs + b) / (2 * b) : Nat) : Int)

/-- Clamped to ±Lim (00_scope 5.3). -/
def clampTo (lim : Nat) (v : Int) : Int :=
  if v < -(lim : Int) then -(lim : Int) else if (lim : Int) < v then lim else v

/-- Whether a timer that started at `start` has run for `units` of local time (differences modulo 2^32, 00_scope 5.3). -/
def elapsed (start now : Time) : Nat := (now - start).toNat

/-! ### Codes -/

/-- State codes 00h..04h (R3). -/
def stateCode : CState → Nat
  | .closed => 0
  | .acquiring => 1
  | .running => 2
  | .hold => 3
  | .closing => 4

/-- Source codes (section 3.7). -/
def sourceCode : Source → Nat
  | .circuit c => c.val
  | .path .x => 0x10
  | .path .y => 0x11
  | .reference => 0x12
  | .port .cp0 => 0x13
  | .port .cp1 => 0x14

/-- Kind codes (section 3.7). -/
def kindCode : AttnKind → Nat
  | .circuitState => 0x01
  | .acquireTimeout => 0x02
  | .underrun => 0x03
  | .overrun => 0x04
  | .lineAlarm => 0x05
  | .remoteFault => 0x06
  | .pathHealth => 0x07
  | .txPathChange => 0x08
  | .delayLimit => 0x09
  | .asymmetry => 0x0A
  | .loopSaturation => 0x0B
  | .referenceState => 0x0C
  | .authority => 0x0D
  | .supervision => 0x0E

/-- Monitor state codes (R120). -/
def refCode : RefState → Nat
  | .absent => 0
  | .qualifying => 1
  | .good => 2
  | .outOfRange => 3

/-- Supervision state codes (R155). -/
def supCode : SupState → Nat
  | .idle => 0
  | .awaitAnswer => 1
  | .awaitFetch => 2

/-- Framer state codes (R38). -/
def framerCode : FramerState → Nat
  | .search => 0
  | .verify => 1
  | .aligned => 2
  | .notRequired => 3

/-- X is 00h and Y is 01h (R66, R68, R98). -/
def pathCode : Path → Nat
  | .x => 0
  | .y => 1

/-- The holder's code: 00h none, 01h CP0, 02h CP1 (R167). -/
def holderCode : Option Port → Nat
  | none => 0
  | some .cp0 => 1
  | some .cp1 => 2

/-- Bit 0 for X and bit 1 for Y (R66, R69, R139). -/
def pathBits (v : PerPath Bool) : Nat := (if v.x then 1 else 0) + (if v.y then 2 else 0)

end Sys2Proof.Machine
end

