-- ==== Sys2Proof/WellFormed.lean ====
section
/-! DEFINITION. Which terms of the syntax are meaningful: command frames that the length octet can announce, layouts within
the ranges of R1, and commands whose operands an input of the part can carry. -/

namespace Sys2Proof

/-- A command frame's length octet counts 0..255 parameter octets (section 3.5). -/
def CommandFrame.wellFormed (f : CommandFrame) : Bool :=
  decide (f.params.length ≤ 255)

/-- A slot list is strictly ascending (R1). -/
def ascending : List Nat → Bool
  | [] => true
  | [_] => true
  | a :: b :: rest => decide (a < b) && ascending (b :: rest)

/-- The slot list of a layout: absent in UNSTRUCTURED mode, 1 to 31 numbers in 1..31, strictly ascending, in STRUCTURED
mode (R1, R13 check 1). -/
def slotsWellFormed (mode : LineMode) (slots : List Nat) : Bool :=
  match mode with
  | .unstructured => slots.isEmpty
  | .structured =>
    !slots.isEmpty && decide (slots.length ≤ 31) && slots.all (fun n => decide (1 ≤ n) && decide (n ≤ 31))
      && ascending slots

/-- The ranges of the layout group (R1), which Open Circuit checks under BAD_PARAMETER (R13 check 1). -/
def Layout.wellFormed (l : Layout) : Bool :=
  slotsWellFormed l.mode l.slots
    && decide (1 ≤ l.fpp) && decide (l.fpp ≤ 32)
    && decide (2 ≤ l.k) && decide (l.k ≤ 7)
    && decide (1 ≤ l.localTag) && decide (l.localTag ≤ 4095)
    && decide (1 ≤ l.remoteTag) && decide (l.remoteTag ≤ 4095)
    && decide (1 ≤ l.acqLimit) && decide (l.acqLimit ≤ 255)
    && decide (1 ≤ l.lossThreshold) && decide (l.lossThreshold ≤ 255)

/-- A command is well formed when an input of the part can carry its operands. Ports, paths, circuits, bits and octets are so by
their types. A received Ethernet frame is a sequence of octets that holds one at least: a frame of no octets is no frame. -/
def Instr.wellFormed : Instr → Bool
  | .frameReceived _ octets => !octets.isEmpty
  | _ => true

end Sys2Proof
end

