-- ==== Sys2Proof/Machine/Operands.lean ====
section
/-! DEFINITION. The parameter octets of every command, read as each command's own rule lays them out, and the result frames.
A parser refuses with the code of the first check that fails, the length before any parameter (R149). -/

namespace Sys2Proof.Machine

/-- Result codes (section 9.5). -/
inductive ResultCode where
  | ok
  | invalidCommand
  | badLength
  | badParameter
  | noAuthority
  | wrongState
  | noSpace
  | duplicateTag
  | notEligible
  | held
  | notStarted
  | locked
  deriving DecidableEq, Repr

/-- Section 9.5. -/
def resultCodeOctet : ResultCode → Octet
  | .ok => 0x00
  | .invalidCommand => 0x01
  | .badLength => 0x02
  | .badParameter => 0x03
  | .noAuthority => 0x04
  | .wrongState => 0x05
  | .noSpace => 0x06
  | .duplicateTag => 0x07
  | .notEligible => 0x08
  | .held => 0x09
  | .notStarted => 0x0A
  | .locked => 0x0B

/-- A result frame: code, length and data (section 3.5). -/
def resultFrame (code : ResultCode) (data : List Octet) : List Octet :=
  resultCodeOctet code :: octet data.length :: data

/-- The result of an accepted command with data. -/
def okData (data : List Octet) : List Octet := resultFrame .ok data

/-- The result of an accepted command whose rule says "no data" (R54). -/
def okNone : List Octet := resultFrame .ok []

/-- A refusal: its code, length 0 and no data (R54). -/
def refuse (code : ResultCode) : List Octet := resultFrame code []

/-- A circuit index octet, 0..15. -/
def circuitOf (o : Octet) : Option CircuitId :=
  if h : o.toNat < 16 then some ⟨o.toNat, h⟩ else none

/-- A path octet: 00h X, 01h Y. -/
def pathOf (o : Octet) : Option Path :=
  match o.toNat with
  | 0 => some .x
  | 1 => some .y
  | _ => none

/-- An octet that is 00h or 01h. -/
def boolOf (o : Octet) : Option Bool :=
  match o.toNat with
  | 0 => some false
  | 1 => some true
  | _ => none

/-- A range check. -/
def within (lo hi n : Nat) : Bool := decide (lo ≤ n) && decide (n ≤ hi)

/-- A command without parameters: a length octet other than 0 is BAD_LENGTH. -/
def parseNone (ps : List Octet) : Except ResultCode Unit :=
  match ps with
  | [] => .ok ()
  | _ => .error .badLength

/-- One parameter octet, a circuit index (R17, R18, R19, R98, R118, R142). -/
def parseCircuit (ps : List Octet) : Except ResultCode CircuitId :=
  match ps with
  | [i] =>
    match circuitOf i with
    | some c => .ok c
    | none => .error .badParameter
  | _ => .error .badLength

/-- Close Circuit: circuit index and drain limit (R15). -/
def parseClose (ps : List Octet) : Except ResultCode (CircuitId × Nat) :=
  match ps with
  | [i, d] =>
    match circuitOf i with
    | some c => .ok (c, d.toNat)
    | none => .error .badParameter
  | _ => .error .badLength

/-- The mode octet of Open Circuit: 00h UNSTRUCTURED, 01h STRUCTURED (R12). -/
def lineModeOf (o : Octet) : Option LineMode :=
  match o.toNat with
  | 0 => some .unstructured
  | 1 => some .structured
  | _ => none

/-- Open Circuit: the length check of R12, then check 1 of R13 over the whole layout. -/
def parseOpen (ps : List Octet) : Except ResultCode (CircuitId × Layout) :=
  match ps with
  | i :: mode :: fpp :: k :: l1 :: l0 :: r1 :: r0 :: acq :: loss :: count :: slots =>
    if 42 < ps.length || ps.length != 11 + count.toNat then .error .badLength
    else
      match circuitOf i, lineModeOf mode with
      | some c, some m =>
        let layout : Layout :=
          { mode := m, slots := slots.map BitVec.toNat, fpp := fpp.toNat, k := k.toNat,
            localTag := fromBe [l1, l0], remoteTag := fromBe [r1, r0],
            acqLimit := acq.toNat, lossThreshold := loss.toNat }
        if layout.wellFormed then .ok (c, layout) else .error .badParameter
      | _, _ => .error .badParameter
  | _ => .error .badLength

/-- Lim is not refused: it is clamped to 1,000..100,000 (R115). -/
def clampLim (n : Nat) : Nat := min 100000 (max 1000 n)

/-- Set Timing (R115). -/
def parseSetTiming (ps : List Octet) : Except ResultCode (CircuitId × TimingSettings) :=
  match ps with
  | [i, mode, l3, l2, l1, l0, gp, gi, m] =>
    match circuitOf i, boolOf mode with
    | some c, some station =>
      if within 4 8 m.toNat then
        .ok (c, { mode := if station then .station else .adaptive, lim := clampLim (fromBe [l3, l2, l1, l0]),
                  gp := gp.toNat, gi := gi.toNat, m := m.toNat })
      else .error .badParameter
    | _, _ => .error .badParameter
  | _ => .error .badLength

/-- The receive set octet: 01h X, 02h Y, 03h both (R69). -/
def receiveSetOf (o : Octet) : Option (PerPath Bool) :=
  match o.toNat with
  | 1 => some ⟨true, false⟩
  | 2 => some ⟨false, true⟩
  | 3 => some ⟨true, true⟩
  | _ => none

/-- A 48-bit address of six octets. -/
def macOf (os : List Octet) : MacAddr := BitVec.ofNat 48 (fromBe os)

/-- Set Paths (R69). -/
def parseSetPaths (ps : List Octet) : Except ResultCode (CircuitId × PathSettings) :=
  match ps with
  | [i, mode, pref, rs, x0, x1, x2, x3, x4, x5, y0, y1, y2, y3, y4, y5, good, bad, low, high] =>
    match circuitOf i, boolOf mode, pathOf pref, receiveSetOf rs with
    | some c, some single, some preferred, some receiveSet =>
      if within 1 7 good.toNat && within 1 7 bad.toNat && within 1 14 low.toNat
          && within (low.toNat + 1) 15 high.toNat then
        .ok (c, { mode := if single then .single else .dual, preferred := preferred, receiveSet := receiveSet,
                  destination := ⟨macOf [x0, x1, x2, x3, x4, x5], macOf [y0, y1, y2, y3, y4, y5]⟩,
                  goodStep := good.toNat, badStep := bad.toNat, low := low.toNat, high := high.toNat })
      else .error .badParameter
    | _, _, _, _ => .error .badParameter
  | _ => .error .badLength

/-- Set Probing (R141). -/
def parseSetProbing (ps : List Octet) : Except ResultCode (CircuitId × ProbeSettings) :=
  match ps with
  | [i, interval, d3, d2, d1, d0, a3, a2, a1, a0] =>
    match circuitOf i with
    | some c =>
      let delay := fromBe [d3, d2, d1, d0]
      let asym := fromBe [a3, a2, a1, a0]
      if within 1 10000000 delay && within 1 10000000 asym then
        .ok (c, { interval := interval.toNat, delayLimit := delay, asymmetryLimit := asym })
      else .error .badParameter
    | none => .error .badParameter
  | _ => .error .badLength

/-- Set Playout (R96). -/
def parseSetPlayout (ps : List Octet) : Except ResultCode (CircuitId × PlayoutSettings) :=
  match ps with
  | [i, target, conceal, fill, suppress] =>
    match circuitOf i, boolOf conceal, boolOf suppress with
    | some c, some isFill, some sup =>
      if target.toNat = 0 then .error .badParameter
      else .ok (c, { targetDepth := target.toNat, concealment := if isFill then .fill else .repeatLast,
                     fillOctet := fill, suppress := sup })
    | _, _, _ => .error .badParameter
  | _ => .error .badLength

/-- What Read Paths or Read Counters names: a circuit or a path (R71, R174). -/
inductive ReadObject where
  | circuit (c : CircuitId)
  | path (π : Path)
  deriving DecidableEq, Repr

/-- 00h..0Fh a circuit, 10h path X, 11h path Y (R71, R174). -/
def readObjectOf (o : Octet) : Option ReadObject :=
  match circuitOf o with
  | some c => some (.circuit c)
  | none =>
    match o.toNat with
    | 0x10 => some (.path .x)
    | 0x11 => some (.path .y)
    | _ => none

/-- Read Paths (R71). -/
def parseReadPaths (ps : List Octet) : Except ResultCode ReadObject :=
  match ps with
  | [o] =>
    match readObjectOf o with
    | some obj => .ok obj
    | none => .error .badParameter
  | _ => .error .badLength

/-- Read Counters: the object and the path octet, which is 00h for a path object (R174). -/
def parseReadCounters (ps : List Octet) : Except ResultCode (ReadObject × Path) :=
  match ps with
  | [o, q] =>
    match readObjectOf o, pathOf q with
    | some (.path π), some .x => .ok (.path π, .x)
    | some (.circuit c), some π => .ok (.circuit c, π)
    | _, _ => .error .badParameter
  | _ => .error .badLength

/-- Configure Reference: tolerance, Q and alignment word (R127). -/
def parseConfigureReference (ps : List Octet) : Except ResultCode (Nat × Nat × BitVec 7) :=
  match ps with
  | [tol, q, word] =>
    if within 1 255 tol.toNat && within 1 15 q.toNat && decide (word.toNat ≤ 0x7F) then
      .ok (tol.toNat, q.toNat, word.setWidth 7)
    else .error .badParameter
  | _ => .error .badLength

/-- Configure Path: path, source address and type code (R61). A source address that is a group address is refused. -/
def parseConfigurePath (ps : List Octet) : Except ResultCode (Path × MacAddr × BitVec 16) :=
  match ps with
  | [q, a0, a1, a2, a3, a4, a5, t1, t0] =>
    match pathOf q with
    | some π =>
      if a0.getLsbD 0 then .error .badParameter
      else .ok (π, macOf [a0, a1, a2, a3, a4, a5], BitVec.ofNat 16 (fromBe [t1, t0]))
    | none => .error .badParameter
  | _ => .error .badLength

/-- Submit Answer: the 32-bit answer (R160). -/
def parseAnswer (ps : List Octet) : Except ResultCode (BitVec 32) :=
  match ps with
  | [a3, a2, a1, a0] => .ok (BitVec.ofNat 32 (fromBe [a3, a2, a1, a0]))
  | _ => .error .badLength

/-- Configure Supervision: the fourteen settings in their ranges (R156, checks 1 and 2). -/
def parseSupervision (ps : List Octet) : Except ResultCode SupSettings :=
  match ps with
  | [ao, ac, ag, fo, fc, fg, strict, rot, roz, good, bad, low, high, k1, k0] =>
    match boolOf strict, boolOf rot, boolOf roz with
    | some st, some rt, some rz =>
      if decide (ao.toNat < ac.toNat) && decide (fo.toNat < fc.toNat) && within 1 7 good.toNat && within 1 7 bad.toNat
          && within 1 14 low.toNat && within (low.toNat + 1) 15 high.toNat then
        .ok { answerOpen := ao.toNat, answerClose := ac.toNat, answerGrace := ag.toNat, fetchOpen := fo.toNat,
              fetchClose := fc.toNat, fetchGrace := fg.toNat, strict := st, resetOnTimeout := rt, resetOnZero := rz,
              goodStep := good.toNat, badStep := bad.toNat, low := low.toNat, high := high.toNat,
              key := BitVec.ofNat 16 (fromBe [k1, k0]) }
      else .error .badParameter
    | _, _, _ => .error .badParameter
  | _ => .error .badLength

end Sys2Proof.Machine
end

