-- ==== Sys2Proof/Machine/Ops.lean ====
section
/-! DEFINITION. The named operations over the state that every block uses: its units one by one, the attention queues, the
counters, and the way an owner serves the frame of a port. -/

namespace Sys2Proof

/-! ### Values that follow from a layout -/

/-- Octets per frame (R1). -/
def Layout.octetsPerFrame (l : Layout) : Nat :=
  match l.mode with
  | .unstructured => 32
  | .structured => l.slots.length

/-- The capacity of the ring: 2^k packets (R1). -/
def Layout.capacity (l : Layout) : Nat := 2 ^ l.k

/-- The needed blocks of a layout (R11). -/
def Layout.neededBlocks (l : Layout) : Nat := (l.capacity * l.fpp * l.octetsPerFrame + 255) / 256

/-- The body length expected of a DATA packet (R49). -/
def Layout.expectedBody (l : Layout) (p : Bool) : Nat := if p then l.fpp * l.octetsPerFrame else 0

end Sys2Proof

namespace Sys2Proof.Machine

open Host (Outcome)

/-- What every meaning answers. -/
abbrev Result := Outcome State Fault Refusal

/-! ### Units of the state -/

def State.circuit (s : State) (c : CircuitId) : Circuit := s.circuits[c.val]

def State.setCircuit (s : State) (c : CircuitId) (v : Circuit) : State :=
  { s with circuits := s.circuits.set c.val v c.isLt }

def State.updCircuit (s : State) (c : CircuitId) (f : Circuit → Circuit) : State :=
  s.setCircuit c (f (s.circuit c))

def State.port (s : State) (p : Port) : PortUnit := s.ports.get p

def State.setPort (s : State) (p : Port) (v : PortUnit) : State := { s with ports := s.ports.set p v }

def State.supUnit (s : State) (p : Port) : SupUnit := s.sup.get p

def State.setSup (s : State) (p : Port) (v : SupUnit) : State := { s with sup := s.sup.set p v }

def State.attnUnit (s : State) (p : Port) : AttnUnit := s.attn.get p

def State.setAttn (s : State) (p : Port) (v : AttnUnit) : State := { s with attn := s.attn.set p v }

def State.pathUnit (s : State) (π : Path) : PathUnit := s.paths.get π

def State.setPath (s : State) (π : Path) (v : PathUnit) : State := { s with paths := s.paths.set π v }

def State.setTransit (s : State) (p : Port) (v : Option Transit) : State := { s with transit := s.transit.set p v }

def State.setHolder (s : State) (h : Option Port) : State := { s with holder := h }

def State.setRef (s : State) (r : RefMonitor) : State := { s with ref := r }

def State.setFreeBlocks (s : State) (n : Nat) : State := { s with freeBlocks := n }

/-- The next free choice is another one (assumptions 4 and 5). -/
def State.bumpFree (s : State) : State := { s with freeCount := s.freeCount + 1 }

/-- All sixteen circuits, in the order of their numbers. -/
def allCircuits : List CircuitId := List.finRange 16

/-! ### Derived layout values -/

/-- The layout of a circuit; only a circuit that was never opened has none, and then no rule asks for it (R1). -/
def Circuit.layoutD (v : Circuit) : Layout :=
  v.layout.getD { mode := .unstructured, slots := [], fpp := 0, k := 0, localTag := 0, remoteTag := 0, acqLimit := 0,
                  lossThreshold := 0 }

/-- The target depth in use: the stored value clamped to capacity − 1 (R2, R92); with no layout, the stored value (R98). -/
def Circuit.targetInUse (v : Circuit) : Nat :=
  match v.layout with
  | some l => min v.playoutSet.targetDepth (l.capacity - 1)
  | none => v.playoutSet.targetDepth

/-- Whether a circuit has a ring, tags in use, probes and a framer at work: any state but CLOSED. -/
def Circuit.isOpen (v : Circuit) : Bool := v.state != .closed

/-! ### Attention (R170) -/

/-- Whether a record is about a source and of a kind. -/
def AttnRecord.isOf (r : AttnRecord) (src : Source) (kind : AttnKind) : Bool :=
  decide (r.source = src) && decide (r.kind = kind)

/-- A later event merges into a record: count up, saturating at 255, the latest value replaced (R170). -/
def AttnRecord.merge (r : AttnRecord) (value : BitVec 16) : AttnRecord :=
  { r with count := min 255 (r.count + 1), latest := value }

/-- One queue takes an event: merge, drop or append (R170). -/
def AttnUnit.take (u : AttnUnit) (src : Source) (kind : AttnKind) (value : BitVec 16) (now : Time) : AttnUnit :=
  if u.queue.any (fun r => r.isOf src kind) then
    { u with queue := u.queue.map fun r => if r.isOf src kind then r.merge value else r }
  else if Config.attentionCapacity ≤ u.queue.length then
    { u with overflow := true }
  else
    { u with queue := u.queue ++ [⟨src, kind, 1, value, now⟩] }

/-- An event posted to the queue of one port (R170, SUPERVISION). -/
def State.postTo (s : State) (p : Port) (src : Source) (kind : AttnKind) (value : BitVec 16) : State :=
  s.setAttn p ((s.attnUnit p).take src kind value s.localTime)

/-- An event posted to the queues of both ports (R170). -/
def State.post (s : State) (src : Source) (kind : AttnKind) (value : BitVec 16) : State :=
  (s.postTo .cp0 src kind value).postTo .cp1 src kind value

/-! ### Counters (section 11.3) -/

/-- Raises counters of a circuit on a path. -/
def Circuit.bumpCp (v : Circuit) (π : Path) (f : CpCounters → CpCounters) : Circuit :=
  { v with cpCounters := v.cpCounters.set π (f (v.cpCounters.get π)) }

/-! ### Serving a command frame (R149) -/

/-- The owner serves the frame of port `p` that waits with it, if one of the given code does: the command's own rule gives the state
and the result frame, and the result is on its way back to the port. With no such frame there is nothing to serve, and
nothing changes (assumption 2). -/
def serve (p : Port) (code : Octet) (rule : List Octet → State → State × List Octet) (s : State) : State :=
  match s.transit.get p with
  | some (.atOwner f) =>
    if f.code = code then
      let (s', r) := rule f.params s
      s'.setTransit p (some (.returning r))
    else s
  | _ => s

end Sys2Proof.Machine
end

