-- ==== Sys2Proof/Machine/Flags.lean ====
section
/-! DEFINITION. The status, alarm and saturation flags: the port status octet, the supervision flag word, the line alarm set and
the receive fault, and the two sticky saturation flags of the timing unit. -/

namespace Sys2Proof.Machine

/-! ### Port status octet (section 3.6, R55) -/

/-- Whether the port's attention queue is not empty: the ATTENTION bit, and ATTN low (R55, R169). -/
def State.attention (s : State) (p : Port) : Bool := !(s.attnUnit p).queue.isEmpty

/-- The phase code of the status octet; START-UP reads as EXECUTING (R55). -/
def phaseCode : Phase → Nat
  | .command => 0
  | .executing => 1
  | .startUp => 1
  | .result => 2

/-- The status octet a port forms at the start of a transaction (R55). -/
def State.statusOctet (s : State) (p : Port) : Octet :=
  let u := s.port p
  let bit (n : Nat) (b : Bool) : Nat := if b then n else 0
  let attention := bit 8 (s.attention p)
  match u.phase with
  | .startUp => octet (0x40 + attention)
  | phase =>
    octet (phaseCode phase * 0x40 + bit 0x20 u.framing + bit 0x10 u.ignored + attention
      + bit 4 (decide (s.holder = some p)) + bit 2 (s.supUnit p).eligible
      + bit 1 (decide ((s.supUnit p).state ≠ .idle)))

/-! ### Supervision flag word (section 10.1) -/

/-- The supervision flags (section 10.1). -/
inductive SupFlag where
  | earlyFetch
  | lateFetch
  | unexpected
  | earlyAnswer
  | lateAnswer
  | wrongAnswer
  | answerTimeout
  | fetchTimeout
  | zeroReached
  | windowChanged
  | controllerReset
  deriving DecidableEq, Repr

/-- The bit of a flag in the flag word (section 10.1). -/
def supFlagBit : SupFlag → BitVec 16
  | .earlyFetch => 0x0001
  | .lateFetch => 0x0002
  | .unexpected => 0x0004
  | .earlyAnswer => 0x0008
  | .lateAnswer => 0x0010
  | .wrongAnswer => 0x0020
  | .answerTimeout => 0x0040
  | .fetchTimeout => 0x0080
  | .zeroReached => 0x0100
  | .windowChanged => 0x0200
  | .controllerReset => 0x0400

/-- Sets a supervision flag; one already set stays set (R163). -/
def SupUnit.setFlag (u : SupUnit) (f : SupFlag) : SupUnit := { u with flags := u.flags ||| supFlagBit f }

/-- The latest value of a SUPERVISION post: the flag word, with eligibility in bit 15 (R163). -/
def SupUnit.postValue (u : SupUnit) : BitVec 16 := u.flags ||| (if u.eligible then 0x8000#16 else 0#16)

/-! ### Line alarms (section 2.4) -/

/-- LOA is present while the circuit is not CLOSED, its mode is STRUCTURED and its framer is in SEARCH or VERIFY (R32). -/
def Circuit.loa (v : Circuit) : Bool :=
  v.isOpen && decide (v.layoutD.mode = .structured)
    && (decide (v.line.framer = .search) || decide (v.line.framer = .verify))

/-- The receive fault: LOS, AIS or LOA present (R32). -/
def Circuit.receiveFault (v : Circuit) : Bool := v.line.los || v.line.ais || v.loa

/-- The alarm set: LOS 1, AIS 2, LOA 4, added together (R33). -/
def Circuit.alarmSet (v : Circuit) : Nat :=
  (if v.line.los then 1 else 0) + (if v.line.ais then 2 else 0) + (if v.loa then 4 else 0)

/-- A change of the alarm set of a circuit outside CLOSED posts LINE_ALARM once, with the set after the change (R33). -/
def State.postAlarmChange (s : State) (c : CircuitId) (before : Nat) : State :=
  let v := s.circuit c
  if v.isOpen && v.alarmSet != before then s.post (.circuit c) .lineAlarm (BitVec.ofNat 16 v.alarmSet) else s

/-! ### Saturation flags (section 6.4) -/

/-- Whether a clamp that acts sets a flag copy that was clear before, in either port (R111). -/
def newlySet (acted : Bool) (copies : PerPort Bool) : Bool := acted && !(copies.cp0 && copies.cp1)

/-- Clamps that acted set both copies of their flags (R110). -/
def Timing.setSat (t : Timing) (integrator output : Bool) : Timing :=
  { t with
    integratorSat := if integrator then .both true else t.integratorSat
    outputSat := if output then .both true else t.outputSat }

/-- The clamps that acted at one event for a circuit set their flags and, where a copy was clear before, post
LOOP_SATURATION once: integrator 1, output 2, added together (R110, R111). -/
def State.saturate (s : State) (c : CircuitId) (integrator output : Bool) : State :=
  let t := (s.circuit c).timing
  let s' := s.updCircuit c fun v => { v with timing := v.timing.setSat integrator output }
  if newlySet integrator t.integratorSat || newlySet output t.outputSat then
    s'.post (.circuit c) .loopSaturation
      (BitVec.ofNat 16 ((if integrator then 1 else 0) + (if output then 2 else 0)))
  else s'

/-- Both ports' copies of both flags clear (R101). -/
def Timing.clearSat (t : Timing) : Timing := { t with integratorSat := .both false, outputSat := .both false }

end Sys2Proof.Machine
end

