-- ==== Sys2Proof/Machine/Attention.lean ====
section
/-! DEFINITION. Collect Attention, Read Counters and the attention outputs (chapter 11). -/

namespace Sys2Proof.Machine

/-- ATTN of a port is low while its queue holds a record (R153, R169). -/
def State.attnLow (s : State) (p : Port) : Bool := s.attention p

/-- The nine octets of an attention record (section 3.7). -/
def recordOctets (r : AttnRecord) : List Octet :=
  [octet (sourceCode r.source), octet (kindCode r.kind), octet r.count] ++ be 2 r.latest.toNat ++ be 4 r.firstTime.toNat

/-- The data of Collect Attention: records returned, records left, the overflow marker before the command, and the records, oldest
first (R56). -/
def collectData (u : AttnUnit) : List Octet :=
  [octet (u.queue.take 8).length, octet (u.queue.drop 8).length, flagOctet u.overflow]
    ++ (u.queue.take 8).flatMap recordOctets

/-- Collect Attention: up to 8 records removed from the head of the calling port's queue, and the marker cleared (R171). -/
def ruleCollectAttention (p : Port) (ps : List Octet) (s : State) : State × List Octet :=
  match parseNone ps with
  | .error e => (s, refuse e)
  | .ok _ =>
    let u := s.attnUnit p
    (s.setAttn p { queue := u.queue.drop 8, overflow := false }, okData (collectData u))

def execCollectAttention (p : Port) (s : State) : Result := .next (serve p 0x08 (ruleCollectAttention p) s)

/-- A counter's four octets (R174). -/
def counterOctets (k : Counter) : List Octet := be 4 k.toNat

/-- The fifty-four data octets for a circuit and a path (R174). -/
def circuitCounterData (v : Circuit) (c : CircuitId) (π : Path) : List Octet :=
  let k := v.cpCounters.get π
  [octet c.val, octet (pathCode π)]
    ++ [k.sent, k.txDrops, k.accepted, k.duplicates, k.late, k.early, k.notInReceiveSet, k.probesLost, k.echoesStale,
        k.echoesImplausible, v.counters.missing, v.counters.concealed, v.counters.faultFrames].flatMap counterOctets

/-- The seventeen data octets for a path (R174). -/
def pathCounterData (u : PathUnit) (π : Path) : List Octet :=
  octet (0x10 + pathCode π) :: [u.frameErrors, u.unknownTag, u.format, u.linkDownDrops].flatMap counterOctets

/-- Read Counters (R174). -/
def ruleReadCounters (ps : List Octet) (s : State) : State × List Octet :=
  match parseReadCounters ps with
  | .error e => (s, refuse e)
  | .ok (.circuit c, π) => (s, okData (circuitCounterData (s.circuit c) c π))
  | .ok (.path π, _) => (s, okData (pathCounterData (s.pathUnit π) π))

def execReadCounters (p : Port) (s : State) : Result := .next (serve p 0x1D ruleReadCounters s)

end Sys2Proof.Machine
end

