-- ==== Sys2Proof/Machine/Paths.lean ====
section
/-! DEFINITION. Path units and path health (chapter 4): handing a packet to a path, health steps, the judgement of the
transmit path, link events, Set Paths and Configure Path. -/

namespace Sys2Proof.Machine

/-! ### Handing a packet to a path unit (R59) -/

/-- A packet that a path unit discards at hand-off or flush as a transmit drop of its circuit on that path (R59, R61). -/
def State.txDrop (s : State) (π : Path) (c : CircuitId) : State :=
  s.updCircuit c fun v => v.bumpCp π fun k => { k with txDrops := k.txDrops + 1 }

/-- The path unit judges a packet of circuit `c`: discarded while the type code is 0000h, while the link is DOWN, or while the
queue holds 64 entries, and otherwise appended with the Ethernet header of the settings stored now (R59). -/
def State.handPacket (s : State) (π : Path) (c : CircuitId) (kind : PacketKind) (number : Seq)
    (packet : List Octet) : State :=
  let u := s.pathUnit π
  if u.typeCode = 0 then s.txDrop π c
  else if !u.linkUp then s.setPath π { u with linkDownDrops := u.linkDownDrops + 1 }
  else if Config.queueCapacity ≤ u.queue.length then s.txDrop π c
  else
    let entry : QueueEntry :=
      { circuit := c, kind := kind, number := number, destination := (s.circuit c).pathSet.destination.get π,
        source := u.source, typeCode := u.typeCode, packet := packet }
    s.setPath π { u with queue := u.queue ++ [entry] }

/-! ### Path health (section 4.5) and the transmit path (section 4.6) -/

/-- The other path is fit: its link is UP and its status for this circuit is USABLE (R68). -/
def State.fit (s : State) (c : CircuitId) (π : Path) : Bool :=
  (s.pathUnit π).linkUp && !(s.circuit c).health.degraded.get π

/-- Whether the active transmit path of a circuit moves: its link is DOWN and the other's UP, or it is DEGRADED and the other is
fit (R68). -/
def State.mustMove (s : State) (c : CircuitId) : Bool :=
  let a := (s.circuit c).health.active
  (!(s.pathUnit a).linkUp && (s.pathUnit a.other).linkUp) || ((s.circuit c).health.degraded.get a && s.fit c a.other)

/-- Path health judges the transmit path of a SINGLE-mode circuit outside CLOSED; a move posts TX_PATH_CHANGE (R68). -/
def State.judgeTx (s : State) (c : CircuitId) : State :=
  let v := s.circuit c
  if decide (v.pathSet.mode = .single) && v.isOpen && s.mustMove c then
    let b := v.health.active.other
    (s.updCircuit c fun v => { v with health := { v.health with active := b } }).post (.circuit c) .txPathChange
      (BitVec.ofNat 16 (pathCode b))
  else s

/-- A good step raises the count, capped at 15; a bad step lowers it, floored at 0 (R66). -/
def stepCount (set : PathSettings) (good : Bool) (count : Nat) : Nat :=
  if good then min 15 (count + set.goodStep) else count - set.badStep

/-- The status judged against the count a step left (R66). -/
def judgeStatus (set : PathSettings) (count : Nat) (degraded : Bool) : Bool :=
  if degraded then !decide (set.high ≤ count) else decide (count < set.low)

/-- One health step for a circuit and a path; a status change posts PATH_HEALTH and goes to the transmit path judgement (R66). -/
def State.healthStep (s : State) (c : CircuitId) (π : Path) (good : Bool) : State :=
  let v := s.circuit c
  let count := stepCount v.pathSet good (v.health.count.get π)
  let was := v.health.degraded.get π
  let now := judgeStatus v.pathSet count was
  let health := { v.health with count := v.health.count.set π count, degraded := v.health.degraded.set π now }
  let s' := s.setCircuit c { v with health := health }
  if was = now then s'
  else
    (s'.post (.circuit c) .pathHealth (hiLo (pathCode π) (pathBits health.degraded))).judgeTx c

/-! ### Link events (R58) -/

/-- Every entry of the queue is discarded as a link-down drop, and the MAC abandons its frame (R58). -/
def PathUnit.flushDown (u : PathUnit) : PathUnit :=
  { u with linkUp := false, queue := [], macFrame := none, macBusyNs := 0,
           linkDownDrops := u.linkDownDrops + BitVec.ofNat 32 u.queue.length }

/-- The path unit after a change of its link input (R58). -/
def PathUnit.linkChange (u : PathUnit) (up : Bool) : PathUnit :=
  if up then { u with linkPin := true, linkUp := true } else { u.flushDown with linkPin := false }

/-- LINK_EVENT (R58): the PHY input of path `π` is now at this level. A level equal to the link state is no change. -/
def State.linkEvent (s : State) (π : Path) (up : Bool) : State :=
  let u := s.pathUnit π
  if u.linkUp = up then s.setPath π { u with linkPin := up }
  else
    let s' := (s.setPath π (u.linkChange up)).post (.path π) .pathHealth (if up then 1 else 0)
    allCircuits.foldl State.judgeTx s'

def execLinkEvent (π : Path) (up : Bool) (s : State) : Result := .next (s.linkEvent π up)

/-! ### Commands -/

/-- Set Paths accepted (R70): all ten settings replaced; outside CLOSED a change from DUAL to SINGLE sets the active path to the
preferred path and judges it once. -/
def State.applySetPaths (s : State) (c : CircuitId) (set : PathSettings) : State :=
  let v := s.circuit c
  if v.isOpen && decide (v.pathSet.mode = .dual) && decide (set.mode = .single) then
    (s.setCircuit c { v with pathSet := set, health := { v.health with active := set.preferred } }).judgeTx c
  else s.setCircuit c { v with pathSet := set }

/-- Set Paths (R69, R70). -/
def ruleSetPaths (ps : List Octet) (s : State) : State × List Octet :=
  match parseSetPaths ps with
  | .error e => (s, refuse e)
  | .ok (c, set) => (s.applySetPaths c set, okNone)

def execSetPaths (p : Port) (s : State) : Result := .next (serve p 0x15 ruleSetPaths s)

/-- Every queued entry discarded as a transmit drop of its own circuit (R61). -/
def State.flushAsTxDrops (s : State) (π : Path) : State :=
  let s' := s.setPath π { s.pathUnit π with queue := [] }
  (s.pathUnit π).queue.foldl (fun t e => t.txDrop π e.circuit) s'

/-- Configure Path accepted (R61): a type code changed from non-zero to 0000h flushes the queue; the settings are replaced. -/
def State.applyConfigurePath (s : State) (π : Path) (source : MacAddr) (typeCode : BitVec 16) : State :=
  let s' := if (s.pathUnit π).typeCode ≠ 0 ∧ typeCode = 0 then s.flushAsTxDrops π else s
  s'.setPath π { s'.pathUnit π with source := source, typeCode := typeCode }

/-- Configure Path (R61). -/
def ruleConfigurePath (ps : List Octet) (s : State) : State × List Octet :=
  match parseConfigurePath ps with
  | .error e => (s, refuse e)
  | .ok (π, source, typeCode) => (s.applyConfigurePath π source typeCode, okNone)

def execConfigurePath (p : Port) (s : State) : Result := .next (serve p 0x22 ruleConfigurePath s)

end Sys2Proof.Machine
end

