-- ==== Sys2Proof/Machine/Packetizer.lean ====
section
/-! DEFINITION. The transport header and the packetizer (sections 3.1 and 3.3). -/

namespace Sys2Proof.Machine

/-- The kind field of the transport header (section 3.3). -/
def packetKindCode : PacketKind → Nat
  | .data => 0
  | .probe => 1
  | .echo => 2

/-- The six octets of a transport header: version 1, kind, L, R, P, a zero; four zeros and the circuit tag; the sequence or
probe number; fpp (R50). -/
def transportHeader (kind : PacketKind) (l r p : Bool) (tag : Nat) (number : Seq) (fpp : Nat) : List Octet :=
  octet (0x40 + packetKindCode kind * 0x10 + (if l then 8 else 0) + (if r then 4 else 0) + (if p then 2 else 0))
    :: (be 2 (tag % 4096) ++ be 2 number.toNat ++ [octet fpp])

/-- L of a packet: a frame of it carried the fault mark, or the circuit is in HOLD at completion (R42). -/
def Circuit.packetL (v : Circuit) : Bool :=
  v.packetizer.accumulator.any (fun f => f.2) || decide (v.state = .hold)

/-- R of a packet: the circuit is ACQUIRING or HOLD at completion (R43). -/
def Circuit.packetR (v : Circuit) : Bool := decide (v.state = .acquiring) || decide (v.state = .hold)

/-- P of a packet: 0 in HOLD, and 0 when L is 1 with suppression on (R44). -/
def Circuit.packetP (v : Circuit) : Bool :=
  !decide (v.state = .hold) && !(v.packetL && v.playoutSet.suppress)

/-- The DATA packet that completes: header and body (R41, R44, R52). -/
def Circuit.dataPacket (v : Circuit) : List Octet :=
  transportHeader .data v.packetL v.packetR v.packetP v.layoutD.localTag v.packetizer.txSeq v.layoutD.fpp
    ++ (if v.packetP then v.packetizer.accumulator.flatMap (fun f => f.1) else [])

/-- The packet completes: the sequence number advances, the accumulator empties, and the packet is handed to both paths in DUAL
mode, to the active transmit path in SINGLE mode (R41, R46). -/
def State.completePacket (s : State) (c : CircuitId) : State :=
  let v := s.circuit c
  let packet := v.dataPacket
  let number := v.packetizer.txSeq
  let s' := s.setCircuit c
    { v with packetizer := { v.packetizer with txSeq := number + 1, accumulator := [] } }
  match v.pathSet.mode with
  | .dual => (s'.handPacket .x c .data number packet).handPacket .y c .data number packet
  | .single => s'.handPacket v.health.active c .data number packet

/-- The receive side hands a frame with its fault mark to the packetizer at a receive frame boundary. While running, and past the
first boundary after Open Circuit, the frame is appended, and a packet completes when the accumulator holds fpp frames. The
boundary begins a period that is collected if the packetizer runs (R39, R40, R41). -/
def State.handFrame (s : State) (c : CircuitId) (octets : List Octet) (mark : Bool) : State :=
  let v := s.circuit c
  let k := v.packetizer
  if k.running && k.collecting then
    let s' := s.setCircuit c { v with packetizer := { k with accumulator := k.accumulator ++ [(octets, mark)] } }
    if v.layoutD.fpp ≤ k.accumulator.length + 1 then s'.completePacket c else s'
  else s.setCircuit c { v with packetizer := { k with collecting := k.running } }

/-- The packetizer stops: the frames of the packet in progress are discarded and the sequence number is kept (R39). -/
def Packetizer.stop (k : Packetizer) : Packetizer :=
  { k with running := false, collecting := false, accumulator := [] }

/-- The packetizer at acceptance of Open Circuit (R39). -/
def Packetizer.opened : Packetizer :=
  { running := true, collecting := false, txSeq := 0, accumulator := [] }

end Sys2Proof.Machine
end

