-- ==== Sys2Proof/Machine/Lines.lean ====
section
/-! DEFINITION. The receive side of the tributary lines (sections 2.1 to 2.4): bit periods, receive clock, frame boundaries, LOS
and AIS, and the framer. A step that a bit period makes due belongs to that bit period: it is taken by its own command, by
the part itself when no command waits, or at the latest when the next bit period of the line is taken (assumption 6). -/

namespace Sys2Proof.Machine

/-! ### Frames and octets of the receive side -/

/-- The bits of the receive frame period in progress, in line order. -/
def Line.periodBits (l : Line) : List Bool := l.period.reverse

/-- The octet that begins `offset` bits after the start of the bit history (section 2.3). -/
def Line.historyOctet (l : Line) (offset : Nat) : Octet := bitsOctet ((l.history.reverse.drop offset).take 8)

/-- The low seven bits of an octet, which the framer compares with the alignment word (R24). -/
def lowSeven (o : Octet) : BitVec 7 := o.setWidth 7

/-- A substitute frame: every octet FFh (R23, R28). -/
def Circuit.substituteFrame (v : Circuit) : List Octet := List.replicate v.layoutD.octetsPerFrame 0xFF

/-- The octets of the frame that ends: those received, in line order in UNSTRUCTURED mode; the carried slots in ALIGNED; a
substitute frame while LOS is present and in SEARCH and VERIFY (R23, R28). -/
def Circuit.receivedFrame (v : Circuit) : List Octet :=
  let octets := bitsOctets 32 v.line.periodBits
  if v.line.los then v.substituteFrame
  else
    match v.layoutD.mode with
    | .unstructured => octets
    | .structured =>
      if v.line.framer = .aligned then v.layoutD.slots.map fun n => octets.getD n 0xFF else v.substituteFrame

/-- The framer examines nothing while its circuit is CLOSED and seeks no alignment in UNSTRUCTURED mode (R23, R29). -/
def Circuit.framerActive (v : Circuit) : Bool := v.isOpen && decide (v.layoutD.mode = .structured)

/-- LOS clearance judges the frame period that ends: one with a mark raises the mark period count, one without zeroes it
(R30). -/
def Line.judgePeriod (l : Line) (bits : List Bool) : Line :=
  if l.los then { l with markPeriods := if bits.any id then l.markPeriods + 1 else 0 } else l

/-! ### What is due on a line -/

/-- LOS sets when the space run count reaches 2048 (R30). -/
def Circuit.losSetDue (v : Circuit) : Bool := !v.line.los && decide (2048 ≤ v.line.spaceRun)

/-- LOS clears when the mark period count reaches 8 (R30). -/
def Circuit.losClearDue (v : Circuit) : Bool := v.line.los && decide (8 ≤ v.line.markPeriods)

/-- A span ends after 512 bit periods (R31). -/
def Circuit.aisSpanDue (v : Circuit) : Bool := decide (512 ≤ v.line.spanBits)

/-- A receive frame period ends after 256 bit periods (R21). -/
def Circuit.boundaryDue (v : Circuit) : Bool := decide (256 ≤ v.line.period.length)

/-- In SEARCH a position is examined when its eighth bit has been received (R25). -/
def Circuit.searchDue (v : Circuit) : Bool :=
  v.framerActive && decide (v.line.framer = .search) && decide (v.line.searchPos + 8 ≤ v.line.rxCount)

/-- In VERIFY a test is made when its octet is complete: 256 and then 512 bit periods after the candidate position (R26). -/
def Circuit.verifyDue (v : Circuit) : Bool :=
  v.framerActive && decide (v.line.framer = .verify)
    && decide (v.line.candidate + (if v.line.firstTestPassed then 512 else 256) + 8 ≤ v.line.rxCount)

/-- In ALIGNED slot 0 of every even frame is compared when it completes (R27). -/
def Circuit.compareDue (v : Circuit) : Bool :=
  v.framerActive && decide (v.line.framer = .aligned) && !v.line.frameOdd && !v.line.compared
    && decide (8 ≤ v.line.period.length)

/-- Alignment is lost when the errored word run reaches 3 (R27). -/
def Circuit.lossDue (v : Circuit) : Bool :=
  v.framerActive && decide (v.line.framer = .aligned) && decide (3 ≤ v.line.erroredRun)

/-! ### The steps of a line -/

/-- LOS sets: the mark period count starts at 0, the space run count is no longer kept, and the alarm change is posted (R30, R33). A space run
count that is not kept is 0 (DESIGN CHOICE, assumption 29). -/
def State.losSet (s : State) (c : CircuitId) : State :=
  let v := s.circuit c
  (s.setCircuit c { v with line := { v.line with los := true, markPeriods := 0, spaceRun := 0 } }).postAlarmChange c
    v.alarmSet

/-- LOS clears: the space run count starts again from 0, and the alarm change is posted (R30, R33). The mark period count, which R30 gives no
value while LOS is clear, is 0 from here on (DESIGN CHOICE, assumption 29). -/
def State.losClear (s : State) (c : CircuitId) : State :=
  let v := s.circuit c
  (s.setCircuit c { v with line := { v.line with los := false, markPeriods := 0, spaceRun := 0 } }).postAlarmChange c
    v.alarmSet

/-- The end of a 512-bit span: AIS sets at a low span that follows a low span, and clears at the first span that is not low
(R31). -/
def Line.spanEnd (l : Line) : Line :=
  let low := decide (l.spanSpaces < 3)
  { l with ais := if l.ais then low else low && l.prevLow, prevLow := low, spanBits := 0, spanSpaces := 0 }

/-- AIS_SPAN_END with the alarm change it makes (R31, R33). -/
def State.aisSpanEnd (s : State) (c : CircuitId) : State :=
  let v := s.circuit c
  (s.setCircuit c { v with line := v.line.spanEnd }).postAlarmChange c v.alarmSet

/-- In SEARCH the octet at the search position is examined: a match makes it the candidate, and otherwise the search goes on one
bit later (R25). -/
def Line.searchExamine (l : Line) (word : BitVec 7) : Line :=
  if lowSeven (l.historyOctet 0) = word then
    { l with framer := .verify, candidate := l.searchPos, firstTestPassed := false }
  else { l with searchPos := l.searchPos + 1, history := l.history.dropLast }

def State.framerSearch (s : State) (c : CircuitId) : State :=
  s.updCircuit c fun v => { v with line := v.line.searchExamine s.ref.alignmentWord }

/-- A test of VERIFY fails: the search resumes one bit after the candidate, over the bits already received (R26). -/
def Line.verifyFailed (l : Line) : Line :=
  { l with framer := .search, firstTestPassed := false, searchPos := l.candidate + 1, history := l.history.dropLast }

/-- The line on entry to ALIGNED: the receive frame boundary moves to the start of the first aligned frame, 512 bit periods after
the candidate, which is even and whose slot 0 was the second test; the period in progress ends and is judged for LOS clearance
(R26, R28, R30). -/
def Line.alignedEntry (l : Line) : Line :=
  let judged := l.judgePeriod l.period
  { judged with
    framer := .aligned
    firstTestPassed := false
    erroredRun := 0
    frameOdd := false
    compared := true
    period := l.history.take (l.rxCount - (l.candidate + 512))
    history := [] }

/-- Entry to ALIGNED: the shortened frame period is handed over as a substitute frame with the receive fault of its last bit
period, the boundary moves, and LOA clears (R28, R32, R33). -/
def State.enterAligned (s : State) (c : CircuitId) : State :=
  let v := s.circuit c
  let s' := s.handFrame c v.substituteFrame v.receiveFault
  (s'.updCircuit c fun w => { w with line := w.line.alignedEntry }).postAlarmChange c v.alarmSet

/-- The test of VERIFY that is due (R26). -/
def State.framerVerify (s : State) (c : CircuitId) : State :=
  let v := s.circuit c
  if v.line.firstTestPassed then
    if lowSeven (v.line.historyOctet 512) = s.ref.alignmentWord then s.enterAligned c
    else s.setCircuit c { v with line := v.line.verifyFailed }
  else if (v.line.historyOctet 256).getLsbD 6 then
    s.setCircuit c { v with line := { v.line with firstTestPassed := true } }
  else s.setCircuit c { v with line := v.line.verifyFailed }

/-- In ALIGNED slot 0 of an even frame is compared: a match zeroes the errored word run, a mismatch raises it (R27). -/
def Line.alignedCompare (l : Line) (word : BitVec 7) : Line :=
  let slot0 := bitsOctet (l.periodBits.take 8)
  { l with compared := true, erroredRun := if lowSeven slot0 = word then 0 else l.erroredRun + 1 }

def State.framerCompare (s : State) (c : CircuitId) : State :=
  s.updCircuit c fun v => { v with line := v.line.alignedCompare s.ref.alignmentWord }

/-- Loss of alignment: the framer enters SEARCH at the bit that follows the third errored word, with the run at 0 and no history
before it (R27). -/
def Line.alignmentLost (l : Line) : Line :=
  { l with
    framer := .search
    erroredRun := 0
    searchPos := l.rxCount - (l.period.length - 8)
    history := l.period.take (l.period.length - 8) }

/-- LOSS_OF_ALIGNMENT with the alarm change it makes: LOA sets (R27, R32, R33). -/
def State.lossOfAlignment (s : State) (c : CircuitId) : State :=
  let v := s.circuit c
  (s.setCircuit c { v with line := v.line.alignmentLost }).postAlarmChange c v.alarmSet

/-- The line at a receive frame boundary: the period that ends is judged for LOS clearance, and the next begins with the other
parity (R21, R30). -/
def Line.boundary (l : Line) : Line :=
  let judged := l.judgePeriod (l.period.drop (l.period.length - 256))
  { judged with
    period := l.period.take (l.period.length - 256)
    frameOdd := !l.frameOdd
    compared := false }

/-- RECEIVE_FRAME_BOUNDARY: the frame that ends is handed to the packetizer with the receive fault as it stands, unless the circuit
is CLOSED, and the period is judged for LOS clearance (R23, R28, R29, R30). -/
def State.receiveBoundary (s : State) (c : CircuitId) : State :=
  let v := s.circuit c
  let s' := if v.isOpen then s.handFrame c v.receivedFrame v.receiveFault else s
  s'.updCircuit c fun w => { w with line := w.line.boundary }

/-! ### Taking the due steps of a line in their order -/

/-- The steps that a bit period can make due. -/
inductive LineStep where
  | losSet
  | aisSpanEnd
  | lossOfAlignment
  | search
  | verify
  | compare
  | boundary
  | losClear
  deriving DecidableEq, Repr

/-- The first step due on a line: alarms of the bit period, then the framer, then the frame boundary (the fault mark is the
receive fault at the frame's last bit period, R28), then LOS clearance, which falls at the boundary (DEDUCED, assumption 6). -/
def Circuit.lineDue (v : Circuit) : Option LineStep :=
  if v.losSetDue then some .losSet
  else if v.aisSpanDue then some .aisSpanEnd
  else if v.lossDue then some .lossOfAlignment
  else if v.searchDue then some .search
  else if v.verifyDue then some .verify
  else if v.compareDue then some .compare
  else if v.boundaryDue then some .boundary
  else if v.losClearDue then some .losClear
  else none

/-- One step of a line is one event of R33 and posts LINE_ALARM at most once. R33 leaves open whether two alarms that change at one bit
period by two different steps are a single event: AIS at the end of a span beside LOS, which sets then or clears at the boundary of the same
bit; LOA at a loss of alignment beside either; LOA at the entry to ALIGNED beside an LOS that the judged shortened period clears. The model
takes them as two events, each posted with the set after it (DESIGN CHOICE, assumption 25, unsafe). -/
def State.lineStep (s : State) (c : CircuitId) : LineStep → State
  | .losSet => s.losSet c
  | .aisSpanEnd => s.aisSpanEnd c
  | .lossOfAlignment => s.lossOfAlignment c
  | .search => s.framerSearch c
  | .verify => s.framerVerify c
  | .compare => s.framerCompare c
  | .boundary => s.receiveBoundary c
  | .losClear => s.losClear c

/-- Takes up to `fuel` due steps of a line. -/
def settleLineFor : Nat → State → CircuitId → State
  | 0, s, _ => s
  | fuel + 1, s, c =>
    match (s.circuit c).lineDue with
    | none => s
    | some step => settleLineFor fuel (s.lineStep c step) c

/-- Takes the due steps of a line. One bit period makes fewer than 2048 due: a resumed search runs over at most 519 bits
received before, with at most three steps at each position. -/
def State.settleLine (s : State) (c : CircuitId) : State := settleLineFor 2048 s c

/-! ### Bit periods -/

/-- The line counts a bit: the receive count, the frame period, the history of a searching framer, the space run count while LOS
is clear, and the AIS span (R21, R25, R30, R31). -/
def Line.takeBit (l : Line) (searching mark : Bool) : Line :=
  { l with
    rxCount := l.rxCount + 1
    period := mark :: l.period
    history := if searching then mark :: l.history else l.history
    spaceRun := if l.los || mark then 0 else l.spaceRun + 1
    spanBits := l.spanBits + 1
    spanSpaces := if mark then l.spanSpaces else l.spanSpaces + 1 }

/-- Whether the framer keeps the bits it receives: in SEARCH and VERIFY of an open STRUCTURED circuit (section 2.3). -/
def Circuit.searching (v : Circuit) : Bool :=
  v.framerActive && (decide (v.line.framer = .search) || decide (v.line.framer = .verify))

/-- One bit period of a line with the clock that produces it: the received clock takes the bit of TRXD at a rising edge of TRXC, the
crystal a space (R21, R22). -/
def Circuit.takeBit (v : Circuit) (crystal mark : Bool) : Circuit :=
  let clocked := { v.line with
    crystal := crystal, rxPhase := if crystal then v.line.rxPhase - Config.bitPhase else 0 }
  { v with line := clocked.takeBit v.searching mark }

/-- A bit period produced from the crystal: a space (R22). -/
def State.crystalBit (s : State) (c : CircuitId) : State :=
  (s.settleLine c).updCircuit c fun v => v.takeBit true false

/-- The crystal takes over after two nominal bit periods without an edge of TRXC (R22). -/
def Circuit.clockLossDue (v : Circuit) : Bool :=
  !v.line.crystal && decide (2 * Config.bitPhase ≤ v.line.rxPhase)

/-- A bit period of the crystal has passed (R22). -/
def Circuit.crystalBitDue (v : Circuit) : Bool := v.line.crystal && decide (Config.bitPhase ≤ v.line.rxPhase)

/-- The crystal takes over when that is due (R22). The two silent bit periods are not lost: the crystal produces them at once (DEDUCED,
assumption 14). -/
def State.settleClockLoss (s : State) (c : CircuitId) : State :=
  if (s.circuit c).clockLossDue then
    s.updCircuit c fun v => { v with line := { v.line with crystal := true } }
  else s

/-- Takes up to `fuel` bit periods of the crystal that have passed. -/
def crystalBitsFor : Nat → State → CircuitId → State
  | 0, s, _ => s
  | fuel + 1, s, c => if (s.circuit c).crystalBitDue then crystalBitsFor fuel (s.crystalBit c) c else s

/-- The line before an edge of TRXC: the crystal has taken over if that was due, and every bit period of the crystal that has passed is
counted, so that none is lost at the change (R22). -/
def State.settleClock (s : State) (c : CircuitId) : State :=
  crystalBitsFor ((s.circuit c).line.rxPhase / Config.bitPhase) (s.settleClockLoss c) c

/-- A rising edge of TRXC with TRXD at this level: the received clock is in use and takes the bit (R21, R22). The bit period of the
crystal in progress is the one this edge ends, so that it is counted once (DEDUCED, assumption 14). -/
def State.trxcEdge (s : State) (c : CircuitId) (mark : Bool) : State :=
  ((s.settleClock c).settleLine c).updCircuit c fun v => v.takeBit false mark

/-! ### Meanings -/

/-- RECEIVE_BIT_PERIOD (R21, R22, R30, R31): a bit of TRXD at an edge of TRXC, or, while the crystal is in use, a space for each
nominal bit period that has passed. -/
def execReceiveBitPeriod (c : CircuitId) (mark : Bool) (s : State) : Result :=
  .next (if (s.circuit c).line.crystal then (if (s.circuit c).crystalBitDue then s.crystalBit c else s)
    else s.trxcEdge c mark)

/-- RECEIVE_CLOCK_LOSS (R22). -/
def execReceiveClockLoss (c : CircuitId) (s : State) : Result := .next (s.settleClockLoss c)

/-- RECEIVE_CLOCK_RETURN (R22): the first rising edge of TRXC after a loss returns the line to the received clock and takes its
bit. -/
def execReceiveClockReturn (c : CircuitId) (mark : Bool) (s : State) : Result := .next (s.trxcEdge c mark)

/-- LOS_SET (R30). -/
def execLosSet (c : CircuitId) (s : State) : Result :=
  .next (if (s.circuit c).losSetDue then s.losSet c else s)

/-- LOS_CLEAR (R30). -/
def execLosClear (c : CircuitId) (s : State) : Result :=
  .next (if (s.circuit c).losClearDue then s.losClear c else s)

/-- AIS_SPAN_END (R31). -/
def execAisSpanEnd (c : CircuitId) (s : State) : Result :=
  .next (if (s.circuit c).aisSpanDue then s.aisSpanEnd c else s)

/-- FRAMER_SEARCH_OCTET (R25). -/
def execFramerSearchOctet (c : CircuitId) (s : State) : Result :=
  .next (if (s.circuit c).searchDue then s.framerSearch c else s)

/-- FRAMER_VERIFY_TEST (R26). -/
def execFramerVerifyTest (c : CircuitId) (s : State) : Result :=
  .next (if (s.circuit c).verifyDue then s.framerVerify c else s)

/-- FRAMER_ALIGNED_COMPARE (R27). -/
def execFramerAlignedCompare (c : CircuitId) (s : State) : Result :=
  .next (if (s.circuit c).compareDue then s.framerCompare c else s)

/-- LOSS_OF_ALIGNMENT (R27). -/
def execLossOfAlignment (c : CircuitId) (s : State) : Result :=
  .next (if (s.circuit c).lossDue then s.lossOfAlignment c else s)

/-- RECEIVE_FRAME_BOUNDARY (R28). -/
def execReceiveFrameBoundary (c : CircuitId) (s : State) : Result :=
  .next (if (s.circuit c).boundaryDue then s.receiveBoundary c else s)

end Sys2Proof.Machine
end

