-- ==== Sys2Proof/Machine/Timing.lean ====
section
/-! DEFINITION. The timing unit (chapter 6): depth samples, the loop update, STATION offsets, Set Timing and Read Timing. -/

namespace Sys2Proof.Machine

/-! ### The loop update (section 6.3) -/

/-- Stage 1: the target T in frames (R104); 0 when no layout is present (R118). -/
def Circuit.targetFrames (v : Circuit) : Nat :=
  match v.layout with
  | some l => v.targetInUse * l.fpp
  | none => 0

/-- The window N = 2^m (section 6.1). -/
def TimingSettings.window (t : TimingSettings) : Nat := 2 ^ t.m

/-- Stage 2: E16 = 16 × (S − T × N) / N, to nearest, ties away from zero (R105). -/
def loopError (sum target n : Nat) : Int := roundAway (16 * ((sum : Int) - (target : Int) * (n : Int))) n

/-- Stage 3: P = E16 × Gp / 16, toward zero (R106). -/
def loopProportional (e16 : Int) (gp : Nat) : Int := (e16 * (gp : Int)).tdiv 16

/-- Stage 4: the increment E16 × Gi / 64, toward zero (R107). -/
def loopIncrement (e16 : Int) (gi : Nat) : Int := (e16 * (gi : Int)).tdiv 64

/-- The timing state after a loop update whose window summed to `t.sum` (R105 to R109), before its flags. -/
def loopTiming (set : TimingSettings) (target : Nat) (t : Timing) : Timing :=
  let e16 := loopError t.sum target set.window
  let p := loopProportional e16 set.gp
  let i := clampTo set.lim (t.i + loopIncrement e16 set.gi)
  { t with c := clampTo set.lim (p + i), i := i, sum := 0, n := 0, lastError := e16, lastP := p }

/-- Whether the integrator clamp acts at the update (R107). -/
def loopIntegratorActs (set : TimingSettings) (target : Nat) (t : Timing) : Bool :=
  let sum := t.i + loopIncrement (loopError t.sum target set.window) set.gi
  decide (clampTo set.lim sum ≠ sum)

/-- Whether the output clamp acts at the update (R108). -/
def loopOutputActs (set : TimingSettings) (target : Nat) (t : Timing) : Bool :=
  let e16 := loopError t.sum target set.window
  let sum := loopProportional e16 set.gp + clampTo set.lim (t.i + loopIncrement e16 set.gi)
  decide (clampTo set.lim sum ≠ sum)

/-- The loop update of a circuit (R104 to R109), with its saturation flags and LOOP_SATURATION (R110, R111). -/
def State.loopUpdate (s : State) (c : CircuitId) : State :=
  let v := s.circuit c
  (s.setCircuit c { v with timing := loopTiming v.timingSet v.targetFrames v.timing }).saturate c
    (loopIntegratorActs v.timingSet v.targetFrames v.timing) (loopOutputActs v.timingSet v.targetFrames v.timing)

/-- The timing unit takes a depth sample of a RUNNING circuit in ADAPTIVE mode; the sample that brings n to N makes the loop
update (R102, R104). Any other sample is discarded. -/
def State.depthSample (s : State) (c : CircuitId) (d : Nat) : State :=
  let v := s.circuit c
  if v.state = .running ∧ v.timingSet.mode = .adaptive then
    let t := { v.timing with sum := v.timing.sum + d, n := v.timing.n + 1 }
    let s' := s.setCircuit c { v with timing := t }
    if v.timingSet.window ≤ t.n then s'.loopUpdate c else s'
  else s

/-! ### STATION mode (section 6.6) -/

/-- C takes an offset clamped to ±Lim, with OUTPUT_SAT when the clamp acts (R113, R114). -/
def State.takeOffset (s : State) (c : CircuitId) (offset : Int) : State :=
  let v := s.circuit c
  let value := clampTo v.timingSet.lim offset
  (s.setCircuit c { v with timing := { v.timing with c := value } }).saturate c false (decide (value ≠ offset))

/-- The timing unit applies an offset that the reference monitor hands it to a circuit that is RUNNING in STATION mode (R113). -/
def applyOffset (offset : Int) (s : State) (c : CircuitId) : State :=
  let v := s.circuit c
  if v.state = .running ∧ v.timingSet.mode = .station then s.takeOffset c offset else s

/-- The offset applied to every circuit that is RUNNING in STATION mode (R113). -/
def State.handOffset (s : State) (offset : Int) : State := allCircuits.foldl (applyOffset offset) s

/-! ### Set Timing (R114 to R116) -/

/-- The sample window zeroed (R103). -/
def Timing.zeroWindow (t : Timing) : Timing := { t with sum := 0, n := 0 }

/-- Step 1 of R116: when Lim differs, I and C are clamped to it. -/
def reclamp (old new : Nat) (t : Timing) : Timing :=
  if old = new then t else { t with i := clampTo new t.i, c := clampTo new t.c }

/-- Whether an accepted Set Timing moves C to the monitor's last offset: a change from ADAPTIVE to STATION of a RUNNING circuit
while the monitor is GOOD (R114). -/
def takesOffset (v : Circuit) (ref : RefMonitor) (set : TimingSettings) : Bool :=
  decide (v.timingSet.mode = .adaptive) && decide (set.mode = .station) && decide (v.state = .running)
    && decide (ref.state = .good)

/-- The timing state after steps 1 to 3 of R116. -/
def setTimingValue (v : Circuit) (ref : RefMonitor) (set : TimingSettings) : Timing :=
  let t1 := reclamp v.timingSet.lim set.lim v.timing
  let t2 := if v.timingSet.m ≠ set.m ∨ v.timingSet.mode ≠ set.mode then t1.zeroWindow else t1
  if takesOffset v ref set then { t2 with c := clampTo set.lim ref.lastOffset } else t2

/-- Whether the Lim clamp of the command acts on I (R116 step 1). -/
def setTimingIntegratorActs (v : Circuit) (set : TimingSettings) : Bool :=
  decide ((reclamp v.timingSet.lim set.lim v.timing).i ≠ v.timing.i)

/-- Whether a clamp of the command acts on C, at step 1 or at step 3 (R114, R116). -/
def setTimingOutputActs (v : Circuit) (ref : RefMonitor) (set : TimingSettings) : Bool :=
  decide ((reclamp v.timingSet.lim set.lim v.timing).c ≠ v.timing.c)
    || (takesOffset v ref set && decide (clampTo set.lim ref.lastOffset ≠ ref.lastOffset))

/-- Set Timing accepted (R116). For a CLOSED circuit the clamps act without setting flags (R110). -/
def State.applySetTiming (s : State) (c : CircuitId) (set : TimingSettings) : State :=
  let v := s.circuit c
  let s' := s.setCircuit c { v with timingSet := set, timing := setTimingValue v s.ref set }
  if v.isOpen then s'.saturate c (setTimingIntegratorActs v set) (setTimingOutputActs v s.ref set) else s'

/-- Set Timing (R115, R116). -/
def ruleSetTiming (ps : List Octet) (s : State) : State × List Octet :=
  match parseSetTiming ps with
  | .error e => (s, refuse e)
  | .ok (c, set) => (s.applySetTiming c set, okNone)

def execSetTiming (p : Port) (s : State) : Result := .next (serve p 0x14 ruleSetTiming s)

/-! ### Read Timing (R118) -/

/-- The thirty-five data octets of Read Timing for a port (R118). -/
def timingData (v : Circuit) (c : CircuitId) (p : Port) : List Octet :=
  [octet c.val, octet (stateCode v.state), flagOctet (decide (v.timingSet.mode = .station))]
    ++ be 4 v.timingSet.lim ++ [octet v.timingSet.gp, octet v.timingSet.gi, octet v.timingSet.m]
    ++ beInt v.timing.c ++ beInt v.timing.i ++ be 4 v.timing.sum ++ be 2 v.timing.n ++ be 2 v.targetFrames
    ++ beInt v.timing.lastError ++ beInt v.timing.lastP
    ++ [octet ((if v.timing.integratorSat.get p then 1 else 0) + (if v.timing.outputSat.get p then 2 else 0))]

/-- Read Timing: the snapshot, then the calling port's copies of both flags clear (R118). -/
def ruleReadTiming (p : Port) (ps : List Octet) (s : State) : State × List Octet :=
  match parseCircuit ps with
  | .error e => (s, refuse e)
  | .ok c =>
    let v := s.circuit c
    let t := { v.timing with integratorSat := v.timing.integratorSat.set p false, outputSat := v.timing.outputSat.set p false }
    (s.setCircuit c { v with timing := t }, okData (timingData v c p))

def execReadTiming (p : Port) (s : State) : Result := .next (serve p 0x1A (ruleReadTiming p) s)

end Sys2Proof.Machine
end

