-- ==== Sys2Proof/Machine/Playout.lean ====
section
/-! DEFINITION. The playout unit (chapter 5) and the transmit side of the lines (section 2.5): arrivals, the transmit frame
boundary with the take and the freeing of the head slot, Set Playout and Read Playout. -/

namespace Sys2Proof.Machine

/-! ### Ring and cursor (sections 5.1 and 5.2) -/

/-- The ring slot of a sequence number: s mod 2^k (section 5.1). -/
def slotIndex (l : Layout) (n : Seq) : Nat := n.toNat % l.capacity

def Circuit.slotAt (v : Circuit) (n : Seq) : RingSlot := v.ring.getD (slotIndex v.layoutD n) .emptySlot

def Circuit.setSlot (v : Circuit) (n : Seq) (slot : RingSlot) : Circuit :=
  { v with ring := v.ring.set (slotIndex v.layoutD n) slot }

/-- The offset d = (s − head) mod 65536 (R76). -/
def seqOffset (head n : Seq) : Nat := (n - head).toNat

/-- The classes of an arrival (R76). -/
inductive ArrivalClass where
  | inWindow
  | early
  | late
  deriving DecidableEq, Repr

/-- R76. -/
def classifyOffset (capacity : Nat) (headTaken : Bool) (d : Nat) : ArrivalClass :=
  if d < capacity then (if d = 0 ∧ headTaken then .late else .inWindow)
  else if d < 32768 then .early
  else .late

/-- The span: (hi − head + 1) mod 65536 when hi is set, and 0 otherwise (R77). -/
def Cursor.span (u : Cursor) : Nat :=
  match u.head, u.hi with
  | some h, some n => (n - h + 1).toNat
  | _, _ => 0

/-- hi after a packet is stored: raised to `n` if hi is none or `n` lies further from head (R77). -/
def raiseHi (head : Seq) (hi : Option Seq) (n : Seq) : Option Seq :=
  match hi with
  | none => some n
  | some m => if seqOffset head m < seqOffset head n then some n else some m

/-- A flush: the cursor's part (R75). -/
def Cursor.flush (u : Cursor) : Cursor :=
  { u with head := none, frameIndex := 0, headTaken := false, hi := none, filledCount := 0, earlyRun := 0,
           missingRun := 0, lastPlayed := none }

/-- A flush of the ring makes every slot EMPTY and resets the cursor (R75). -/
def Circuit.flush (v : Circuit) : Circuit :=
  { v with ring := v.ring.map fun _ => .emptySlot, cursor := v.cursor.flush }

/-! ### Arrivals (section 5.3) -/

/-- A DATA arrival as the path unit hands it over: sequence number, L, R, P and, when P is 1, the body as fpp frames (R64). -/
structure Arrival where
  seq : Seq
  l : Bool
  r : Bool
  p : Bool
  frames : List (List Octet)
  deriving DecidableEq, Repr

/-- The slot that a stored packet makes (R79). -/
def Arrival.slot (a : Arrival) (π : Path) (now : Time) : RingSlot :=
  { kind := if a.p then .filled else .fault, seq := a.seq, payload := if a.p then a.frames else [], l := a.l, r := a.r,
    deliveredBy := (PerPath.both false).set π true, firstArrival := now }

/-- The circuit after a store: the slot, hi, the filled count, the early run and the accepted counter (R79). -/
def Circuit.store (v : Circuit) (π : Path) (now : Time) (a : Arrival) : Circuit :=
  let u := v.cursor
  let head := u.head.getD a.seq
  let w := (v.setSlot a.seq (a.slot π now)).bumpCp π fun k => { k with accepted := k.accepted + 1 }
  { w with cursor := { u with hi := raiseHi head u.hi a.seq, filledCount := u.filledCount + 1, earlyRun := 0 } }

/-- The received R is judged against last received R; a difference posts REMOTE_FAULT (R83). -/
def State.judgeR (s : State) (c : CircuitId) (r : Bool) : State :=
  let v := s.circuit c
  let s' := s.setCircuit c { v with cursor := { v.cursor with lastR := some r } }
  if v.cursor.lastR = some (!r) then s'.post (.circuit c) .remoteFault (if r then 1 else 0) else s'

/-- The depth sample D = span × fpp − frame index (R85). -/
def Circuit.depth (v : Circuit) : Nat := v.cursor.span * v.layoutD.fpp - v.cursor.frameIndex

/-- After a store: in RUNNING the depth sample goes to the timing unit (R85); in ACQUIRING a span at or above the target depth in use
sends acquisition complete to the circuit table (R92). -/
def State.afterStore (s : State) (c : CircuitId) : State :=
  let v := s.circuit c
  match v.state with
  | .running => s.depthSample c v.depth
  | .acquiring =>
    if v.targetInUse ≤ v.cursor.span then
      s.setCircuit c { v with requests := { v.requests with acquisitionComplete := true } }
    else s
  | _ => s

/-- A packet is stored (R79). The order of the posts within this one step, PATH_HEALTH and TX_PATH_CHANGE, then REMOTE_FAULT, then
LOOP_SATURATION, is the model's (DESIGN CHOICE, assumption 9). -/
def State.storePacket (s : State) (c : CircuitId) (π : Path) (a : Arrival) : State :=
  (((s.updCircuit c fun v => v.store π s.localTime a).healthStep c π true).judgeR c a.r).afterStore c

/-- The circuit after a duplicate: the path joins the delivered-by set; the first copy from the second path records the merge skew
and the lead path (R80). -/
def Circuit.duplicate (v : Circuit) (π : Path) (now : Time) (n : Seq) : Circuit :=
  let slot := v.slotAt n
  let w := (v.setSlot n { slot with deliveredBy := slot.deliveredBy.set π true }).bumpCp π fun k =>
    { k with duplicates := k.duplicates + 1 }
  if slot.deliveredBy.get π then w
  else { w with cursor := { v.cursor with mergeSkew := now - slot.firstArrival, leadPath := some π.other } }

/-- An in-window arrival whose slot is not EMPTY (R80). -/
def State.duplicatePacket (s : State) (c : CircuitId) (π : Path) (n : Seq) : State :=
  (s.updCircuit c fun v => v.duplicate π s.localTime n).healthStep c π true

/-- An early arrival: counted and discarded; in RUNNING the eighth since the last store requests overrun (R81). A request that finds an
earlier one of its kind still waiting replaces its sequence number (DESIGN CHOICE, assumption 23). -/
def Circuit.earlyArrival (v : Circuit) (π : Path) (n : Seq) : Circuit :=
  let w := v.bumpCp π fun k => { k with early := k.early + 1 }
  if v.state = .running then
    let run := min 8 (v.cursor.earlyRun + 1)
    let w' := { w with cursor := { v.cursor with earlyRun := run } }
    if run = 8 ∧ v.cursor.earlyRun < 8 then { w' with requests := { v.requests with overrun := some n } } else w'
  else w

/-- A late arrival: counted and discarded (R82). -/
def Circuit.lateArrival (v : Circuit) (π : Path) : Circuit := v.bumpCp π fun k => { k with late := k.late + 1 }

/-- An arrival judged by its offset from head (R78 case 4, R76). -/
def State.classifiedArrival (s : State) (c : CircuitId) (π : Path) (a : Arrival) (head : Seq) : State :=
  let v := s.circuit c
  match classifyOffset v.layoutD.capacity v.cursor.headTaken (seqOffset head a.seq) with
  | .inWindow =>
    if (v.slotAt a.seq).kind = .empty then s.storePacket c π a else s.duplicatePacket c π a.seq
  | .early => s.updCircuit c fun v => v.earlyArrival π a.seq
  | .late => s.updCircuit c fun v => v.lateArrival π

/-- A DATA arrival for a circuit on a path (R78). -/
def State.dataArrival (s : State) (c : CircuitId) (π : Path) (a : Arrival) : State :=
  let v := s.circuit c
  if v.state = .hold ∨ v.state = .closing then s
  else if !v.pathSet.receiveSet.get π then
    s.setCircuit c (v.bumpCp π fun k => { k with notInReceiveSet := k.notInReceiveSet + 1 })
  else
    match v.cursor.head with
    | some head => s.classifiedArrival c π a head
    | none =>
      if v.state = .acquiring then
        (s.setCircuit c { v with cursor := { v.cursor with head := some a.seq, frameIndex := 0, headTaken := false } }
          ).storePacket c π a
      else s

/-! ### The transmit frame boundary (sections 2.5 and 5.5) -/

/-- Head takes judge each path of the receive set that did not deliver the slot: one bad step each, X before Y (R86). -/
def missedPaths (set delivered : PerPath Bool) : List Path :=
  (if set.x && !delivered.x then [.x] else []) ++ (if set.y && !delivered.y then [.y] else [])

/-- A Close Circuit for this circuit from port `p` has reached the circuit table and is not yet served (R149). -/
def State.closeAtTable (s : State) (c : CircuitId) (p : Port) : Bool :=
  match s.transit.get p with
  | some (.atOwner f) =>
    decide (f.code = 0x11)
      && (match parseClose f.params with
          | .ok (d, _) => decide (d = c)
          | .error _ => false)
  | _ => false

/-- The request for underrun of an EMPTY head, behind the Close Circuits that have reached the circuit table (R91, R20; assumption 24). One
that finds an earlier request still waiting replaces its sequence number and keeps its place (DESIGN CHOICE, assumption 23). -/
def Circuit.requestUnderrun (v : Circuit) (head : Seq) (closes : PerPort Bool) : Requests :=
  let ahead :=
    match v.requests.underrun with
    | some r => r.closesAhead
    | none => closes
  { v.requests with underrun := some ⟨head, ahead⟩ }

/-- What the take of a head slot does to the circuit, by the slot's state (R87 to R89, R91). `closes` names the ports whose Close Circuit
for the circuit has reached the circuit table. -/
def Circuit.takeHead (v : Circuit) (head : Seq) (closes : PerPort Bool) : Circuit :=
  let u := { v.cursor with headTaken := true }
  let slot := v.slotAt head
  let fpp := BitVec.ofNat 32 v.layoutD.fpp
  match slot.kind with
  | .filled => { v with cursor := { u with missingRun := 0, farL := some slot.l } }
  | .fault =>
    { v with
      cursor := { u with missingRun := 0, farL := some slot.l }
      counters := { v.counters with faultFrames := v.counters.faultFrames + fpp } }
  | .empty =>
    let run := min 255 (u.missingRun + 1)
    { v with
      cursor := { u with missingRun := run }
      counters := { v.counters with missing := v.counters.missing + 1, concealed := v.counters.concealed + fpp }
      requests :=
        if v.state = .running ∧ run = v.layoutD.lossThreshold then v.requestUnderrun head closes else v.requests }

/-- At frame index 0 of a head not taken, the head slot is taken; in RUNNING each missing path takes a bad step (R86). -/
def State.takeIfDue (s : State) (c : CircuitId) (head : Seq) : State :=
  let v := s.circuit c
  if v.cursor.frameIndex = 0 ∧ !v.cursor.headTaken then
    let s' := s.setCircuit c (v.takeHead head ⟨s.closeAtTable c .cp0, s.closeAtTable c .cp1⟩)
    if v.state = .running then
      (missedPaths v.pathSet.receiveSet (v.slotAt head).deliveredBy).foldl (fun t π => t.healthStep c π false) s'
    else s'
  else s

/-- A concealed frame: the last played frame with REPEAT when there is one, and otherwise the fill octet throughout (R89). -/
def Circuit.concealedFrame (v : Circuit) : List Octet :=
  let fill := List.replicate v.layoutD.octetsPerFrame v.playoutSet.fillOctet
  match v.playoutSet.concealment with
  | .fill => fill
  | .repeatLast => v.cursor.lastPlayed.getD fill

/-- The frame the playout unit gives from the head slot, none for a conditioning frame (R87 to R89). -/
def Circuit.givenFrame (v : Circuit) (head : Seq) : Option (List Octet) :=
  let slot := v.slotAt head
  match slot.kind with
  | .filled => some (slot.payload.getD v.cursor.frameIndex [])
  | .fault => none
  | .empty => some v.concealedFrame

/-- A frame given from a FILLED slot becomes the last played frame (R87). -/
def Circuit.notePlayed (v : Circuit) (head : Seq) : Circuit :=
  if (v.slotAt head).kind = .filled then { v with cursor := { v.cursor with lastPlayed := v.givenFrame head } } else v

/-- With the last frame of the packet the head slot is freed and head advances; in CLOSING a freeing that brings the filled count to
0 sends drain complete. Otherwise the frame index rises (R90). -/
def Circuit.freeIfLast (v : Circuit) (head : Seq) : Circuit :=
  let u := v.cursor
  if v.layoutD.fpp ≤ u.frameIndex + 1 then
    let held := (v.slotAt head).kind ≠ .empty
    let filled := if held then u.filledCount - 1 else u.filledCount
    let w := v.setSlot head .emptySlot
    { w with
      cursor := { u with head := some (head + 1), frameIndex := 0, headTaken := false, filledCount := filled,
                         hi := if filled = 0 then none else u.hi }
      requests :=
        if held ∧ filled = 0 ∧ v.state = .closing then { v.requests with drainComplete := true } else v.requests }
  else { v with cursor := { u with frameIndex := u.frameIndex + 1 } }

/-- Slot 0 of a traffic frame: bit 7 and the alignment word in an even frame; ones with the remote indication in bit 5 in an odd
one (R24, R36). -/
def slotZero (word : BitVec 7) (odd fault : Bool) : Octet :=
  if odd then (if fault then 0xFF else 0xDF) else 0x80#8 ||| word.setWidth 8

/-- The carried slots take the octets of the frame in slot-list order; every other slot takes the fill octet (R36). -/
def carriedSlot (slots : List Nat) (frame : List Octet) (fill : Octet) (n : Nat) : Octet :=
  if slots.contains n then frame.getD (slots.idxOf n) fill else fill

/-- The 32 line slots of a traffic frame (R36, R37). -/
def Circuit.trafficFrame (v : Circuit) (word : BitVec 7) (odd : Bool) (frame : List Octet) : List Octet :=
  match v.layoutD.mode with
  | .unstructured => frame
  | .structured =>
    slotZero word odd v.receiveFault
      :: (List.range 31).map fun n => carriedSlot v.layoutD.slots frame v.playoutSet.fillOctet (n + 1)

/-- A conditioning frame: 256 ones (section 2.5). -/
def conditioningFrame : List Octet := List.replicate 32 0xFF

/-- The transmit side begins a frame: the parity alternates, the rate is C outside CLOSED and nominal in CLOSED, and the phase
starts afresh with what the boundary left over (R34, R100). -/
def Circuit.beginFrame (v : Circuit) (kind : TxKind) (octets : List Octet) : Circuit :=
  { v with line :=
    { v.line with
      txOdd := !v.line.txOdd
      txKind := kind
      txOctets := octets
      txRate := if v.isOpen then v.timing.c else 0
      txPhase := v.line.txPhase - Config.framePhase } }

/-- The bits of the transmit frame in progress in line order: slots 0 to 31, each most significant bit first (R37, section 2.1,
00_scope 5.2). -/
def Line.txBits (l : Line) : List Bool := l.txOctets.flatMap octetBits

/-- The bit period in progress of the transmit frame, 0 to 255 (R34). A line whose frame boundary is due stays at the last one until the
boundary is taken (DESIGN CHOICE, assumption 22). -/
def Line.txBitIndex (l : Line) : Nat := min 255 (l.txPhase / Config.txBitPhase)

/-- The level of TTXD: the bit of the transmit frame in progress that is being sent (R34, R37). -/
def State.ttxd (s : State) (c : CircuitId) : Bool :=
  let l := (s.circuit c).line
  l.txBits.getD l.txBitIndex true

/-- The frame that begins at a boundary with the playout unit giving it from head (R35, R86 to R90). -/
def State.playFrame (s : State) (c : CircuitId) (head : Seq) : State :=
  let s' := s.takeIfDue c head
  s'.updCircuit c fun v =>
    let begun :=
      match v.givenFrame head with
      | some frame => v.beginFrame .traffic (v.trafficFrame s'.ref.alignmentWord (!v.line.txOdd) frame)
      | none => v.beginFrame .conditioning conditioningFrame
    (begun.notePlayed head).freeIfLast head

/-- In CLOSING drain remaining falls by 1 at every fpp-th boundary after the last accepted Close Circuit (R16). At 0 the circuit stands in
CLOSING until DRAIN_LIMIT_EXPIRY, a step of its own, is taken, and a Read Circuit served in between reports drain remaining 0, where the
table of R19 gives 1..255 in CLOSING (DESIGN CHOICE, assumption 28). -/
def Circuit.drainBoundary (v : Circuit) : Circuit :=
  if v.state = .closing then
    if v.layoutD.fpp ≤ v.drainFrames + 1 then { v with drainFrames := 0, drainRemaining := v.drainRemaining - 1 }
    else { v with drainFrames := v.drainFrames + 1 }
  else v

/-- TRANSMIT_FRAME_BOUNDARY: in RUNNING and CLOSING the playout unit gives the frame, and in every other state the line sends
conditioning (R35). -/
def State.transmitBoundary (s : State) (c : CircuitId) : State :=
  let v := s.circuit c
  let s' :=
    match (if v.state = .running ∨ v.state = .closing then v.cursor.head else none) with
    | some head => s.playFrame c head
    | none => s.updCircuit c fun v => v.beginFrame .conditioning conditioningFrame
  s'.updCircuit c Circuit.drainBoundary

/-- A transmit frame ends when its 256 bit periods have passed at the line's transmit rate (R34, R100). -/
def Circuit.transmitDue (v : Circuit) : Bool := decide (Config.framePhase ≤ v.line.txPhase)

def execTransmitFrameBoundary (c : CircuitId) (s : State) : Result :=
  .next (if (s.circuit c).transmitDue then s.transmitBoundary c else s)

/-! ### The acquisition timer (R93) -/

/-- The acquisition timer has run for acquisition limit × 10 ms in ACQUIRING. A store that completed the acquisition came first:
while its request waits there is no expiry (R93, R99). -/
def State.acqTimerDue (s : State) (c : CircuitId) : Bool :=
  let v := s.circuit c
  match v.cursor.acqTimer with
  | some start =>
    decide (v.state = .acquiring) && !v.requests.acquisitionComplete
      && decide (v.layoutD.acqLimit * Config.unitsPer10Ms ≤ elapsed start s.localTime)
  | none => false

/-- ACQUISITION_TIMER_EXPIRY: the ring is flushed, the timer restarts, and ACQUIRE_TIMEOUT is posted with the span just before the
flush (R93). -/
def State.acqTimerExpiry (s : State) (c : CircuitId) : State :=
  let v := s.circuit c
  let w := v.flush
  (s.setCircuit c { w with cursor := { w.cursor with acqTimer := some s.localTime } }).post (.circuit c) .acquireTimeout
    (BitVec.ofNat 16 v.cursor.span)

def execAcquisitionTimerExpiry (c : CircuitId) (s : State) : Result :=
  .next (if s.acqTimerDue c then s.acqTimerExpiry c else s)

/-! ### Set Playout and Read Playout (section 5.8) -/

/-- Set Playout: all four settings replaced, in every circuit state (R96, R97). -/
def ruleSetPlayout (ps : List Octet) (s : State) : State × List Octet :=
  match parseSetPlayout ps with
  | .error e => (s, refuse e)
  | .ok (c, set) => (s.updCircuit c fun v => { v with playoutSet := set }, okNone)

def execSetPlayout (p : Port) (s : State) : Result := .next (serve p 0x17 ruleSetPlayout s)

/-- Acquisition time remaining in units of 10 ms, rounded up; 0 when stopped (R98). -/
def Circuit.acqRemaining (v : Circuit) (now : Time) : Nat :=
  match v.cursor.acqTimer with
  | some start =>
    (v.layoutD.acqLimit * Config.unitsPer10Ms - elapsed start now + (Config.unitsPer10Ms - 1)) / Config.unitsPer10Ms
  | none => 0

/-- 00h, 01h, or FFh for none (R98). -/
def optionFlag (b : Option Bool) : Octet :=
  match b with
  | none => 0xFF
  | some v => flagOctet v

/-- The thirty data octets of Read Playout (R98), the line status among them: for a CLOSED circuit the transmit kind shows
conditioning (R38). -/
def playoutData (v : Circuit) (c : CircuitId) (now : Time) : List Octet :=
  let u := v.cursor
  [octet c.val, octet (stateCode v.state), flagOctet u.head.isSome] ++ be 2 (u.head.getD 0).toNat
    ++ [octet u.frameIndex, flagOctet u.hi.isSome] ++ be 2 (u.hi.getD 0).toNat
    ++ [octet u.filledCount, octet u.span, octet u.earlyRun, octet u.missingRun, octet (v.acqRemaining now),
        octet v.playoutSet.targetDepth, octet v.targetInUse, flagOctet (decide (v.playoutSet.concealment = .fill)),
        v.playoutSet.fillOctet, flagOctet v.playoutSet.suppress, optionFlag u.lastR, optionFlag u.farL]
    ++ be 4 u.mergeSkew.toNat
    ++ [match u.leadPath with
        | none => 0xFF
        | some π => octet (pathCode π),
        octet (framerCode v.line.framer), octet v.alarmSet, octet v.line.erroredRun,
        flagOctet (v.isOpen && decide (v.line.txKind = .traffic))]

/-- Read Playout: a snapshot of the cursor, the playout settings and the line status (R38, R98). -/
def ruleReadPlayout (ps : List Octet) (s : State) : State × List Octet :=
  match parseCircuit ps with
  | .error e => (s, refuse e)
  | .ok c => (s, okData (playoutData (s.circuit c) c s.localTime))

def execReadPlayout (p : Port) (s : State) : Result := .next (serve p 0x19 ruleReadPlayout s)

end Sys2Proof.Machine
end

