-- ==== Sys2Proof/Machine/Probes.lean ====
section
/-! DEFINITION. The probe unit (chapter 8): due instants, departures, answering PROBEs, ECHOs and round trips, the delay record
and its alarms, Set Probing and Read Delay. -/

namespace Sys2Proof.Machine

/-! ### Sending probes (R131 to R133) -/

/-- A PROBE is handed to a path with the next probe number, and the postponed count of the path becomes 0 (R132, R133). -/
def State.handProbe (s : State) (c : CircuitId) (π : Path) : State :=
  let v := s.circuit c
  let number := v.probing.number
  let probing := { v.probing with number := number + 1, postponed := v.probing.postponed.set π 0 }
  (s.setCircuit c { v with probing := probing }).handPacket π c .probe number
    (transportHeader .probe false false false v.layoutD.localTag number 0)

/-- A probe falls due on a path: passed over at a DOWN link, postponed behind 32 or more entries up to 8 times in a row, and
otherwise handed to the path unit (R132). -/
def probeDue (c : CircuitId) (s : State) (π : Path) : State :=
  let v := s.circuit c
  let u := s.pathUnit π
  if !u.linkUp then s
  else if Config.probeHoldDepth ≤ u.queue.length ∧ v.probing.postponed.get π < 8 then
    s.setCircuit c { v with probing :=
      { v.probing with postponed := v.probing.postponed.set π (v.probing.postponed.get π + 1) } }
  else s.handProbe c π

/-- The probe timer has run for probe interval × 10 ms (R131). -/
def State.probeTimerDue (s : State) (c : CircuitId) : Bool :=
  let v := s.circuit c
  match v.probing.timer with
  | some start =>
    v.isOpen && decide (v.probeSet.interval ≠ 0)
      && decide (v.probeSet.interval * Config.unitsPer10Ms ≤ elapsed start s.localTime)
  | none => false

/-- The paths in the order in which a due instant judges them: free (R133). -/
def probeOrder (xFirst : Bool) : List Path := if xFirst then [.x, .y] else [.y, .x]

/-- PROBE_TIMER_EXPIRY: a probe falls due on each path and the timer restarts (R131 to R133). -/
def State.probeTimerExpiry (s : State) (c : CircuitId) : State :=
  let v := s.circuit c
  let s' := s.setCircuit c { v with probing := { v.probing with timer := some s.localTime } }
  ((probeOrder (Config.xTakesLowerProbe s.freeCount)).foldl (probeDue c) s').bumpFree

def execProbeTimerExpiry (c : CircuitId) (s : State) : Result :=
  .next (if s.probeTimerDue c then s.probeTimerExpiry c else s)

/-! ### Departures (R134) -/

/-- The outstanding list after the departure of a probe (R134). -/
def departedList (list : List Outstanding) (number : Seq) (t1 : Time) : List Outstanding :=
  let distinct := list.filter fun e => e.number != number
  let room := if 4 ≤ distinct.length then distinct.drop 1 else distinct
  room ++ [⟨number, t1⟩]

/-- A PROBE departed: its entry is appended to the circuit's outstanding list, and each entry removed counts as lost. Nothing
for a CLOSED circuit (R134). -/
def State.probeDeparted (s : State) (c : CircuitId) (π : Path) (number : Seq) (t1 : Time) : State :=
  let v := s.circuit c
  if v.isOpen then
    let list := v.probing.outstanding.get π
    let list' := departedList list number t1
    let lost := list.length + 1 - list'.length
    let w := v.bumpCp π fun k => { k with probesLost := k.probesLost + BitVec.ofNat 32 lost }
    s.setCircuit c { w with probing := { v.probing with outstanding := v.probing.outstanding.set π list' } }
  else s

/-! ### Answering probes (R135) -/

/-- A received PROBE is answered by an ECHO on the same path, with the PROBE's number and t1, and t2 its arrival time (R135). -/
def State.answerProbe (s : State) (c : CircuitId) (π : Path) (arrival : Time) (number : Seq) (t1 : List Octet) : State :=
  s.handPacket π c .echo number
    (transportHeader .echo false false false (s.circuit c).layoutD.localTag number 0 ++ t1 ++ be 4 arrival.toNat)

/-! ### Delay alarms (R139, R140) -/

/-- An alarm with hysteresis: sets above the limit, clears at limit × 7 / 8 or less (R139, R140). -/
def judgeAlarm (limit value : Nat) (alarm : Bool) : Bool :=
  if alarm then !decide (value ≤ limit * 7 / 8) else decide (limit < value)

/-- The DELAY_LIMIT alarm bits of both paths (R139). -/
def Probing.alarmBits (b : Probing) : Nat := pathBits ⟨b.record.x.alarm, b.record.y.alarm⟩

/-- The DELAY_LIMIT alarm of a path is judged against the stored limit, and a change is posted. A path with no smoothed value is
not judged (R139). -/
def State.judgeDelay (s : State) (c : CircuitId) (π : Path) : State :=
  let v := s.circuit c
  let rec_ := v.probing.record.get π
  match rec_.smoothed with
  | none => s
  | some value =>
    let alarm := judgeAlarm v.probeSet.delayLimit value rec_.alarm
    if alarm = rec_.alarm then s
    else
      let probing := { v.probing with record := v.probing.record.set π { rec_ with alarm := alarm } }
      (s.setCircuit c { v with probing := probing }).post (.circuit c) .delayLimit
        (hiLo (pathCode π) probing.alarmBits)

/-- The magnitude of the difference of the smoothed round trips, when both paths have one (R140). -/
def Probing.asymmetry (b : Probing) : Option Nat :=
  match b.record.x.smoothed, b.record.y.smoothed with
  | some x, some y => some (max x y - min x y)
  | _, _ => none

/-- Whether path Y's smoothed round trip is the greater (R140). -/
def Probing.yGreater (b : Probing) : Bool := decide (b.record.x.smoothed.getD 0 < b.record.y.smoothed.getD 0)

/-- The ASYMMETRY alarm is judged when both paths have a smoothed round trip, and a change is posted (R140). -/
def State.judgeAsymmetry (s : State) (c : CircuitId) : State :=
  let v := s.circuit c
  match v.probing.asymmetry with
  | none => s
  | some value =>
    let alarm := judgeAlarm v.probeSet.asymmetryLimit value v.probing.asymmetryAlarm
    if alarm = v.probing.asymmetryAlarm then s
    else
      (s.setCircuit c { v with probing := { v.probing with asymmetryAlarm := alarm } }).post (.circuit c) .asymmetry
        (BitVec.ofNat 16 ((if alarm then 1 else 0) + (if v.probing.yGreater then 0x100 else 0)))

/-! ### Echoes and round trips (R136 to R138) -/

/-- The round trip of a matched ECHO: ((t4 − t1) mod 2^32) − ((t3 − t2) mod 2^32) (R137). -/
def roundTrip (t1 t2 t3 t4 : Time) : Int := (elapsed t1 t4 : Int) - (elapsed t2 t3 : Int)

/-- A negative round trip, or one above 1 s, is implausible (R137). -/
def plausible (r : Int) : Bool := decide (0 ≤ r) && decide (r ≤ 10000000)

/-- A port's minimum after a sample (R138). -/
def minimumAfter (old : Option Nat) (sample : Nat) : Option Nat :=
  match old with
  | none => some sample
  | some m => if sample < m then some sample else some m

/-- The smoothed round trip after a sample: S + (sample − S) / 8, the quotient truncated toward zero (R138). -/
def smoothedAfter (old : Option Nat) (sample : Nat) : Nat :=
  match old with
  | none => sample
  | some v => ((v : Int) + ((sample : Int) - (v : Int)).tdiv 8).toNat

/-- The delay record after an accepted sample (R138). -/
def DelayRecord.take (r : DelayRecord) (sample : Nat) : DelayRecord :=
  { r with
    lastRoundTrip := sample
    minimum := ⟨minimumAfter r.minimum.cp0 sample, minimumAfter r.minimum.cp1 sample⟩
    smoothed := some (smoothedAfter r.smoothed sample)
    sampleCount := min 65535 (r.sampleCount + 1) }

/-- An accepted sample enters the delay record, and both alarms are judged (R138). -/
def State.delaySample (s : State) (c : CircuitId) (π : Path) (sample : Nat) : State :=
  let v := s.circuit c
  let probing := { v.probing with record := v.probing.record.set π ((v.probing.record.get π).take sample) }
  ((s.setCircuit c { v with probing := probing }).judgeDelay c π).judgeAsymmetry c

/-- The entries newer than the one with this number (R136). -/
def newerThan (list : List Outstanding) (number : Seq) : List Outstanding :=
  (list.dropWhile fun e => e.number != number).drop 1

/-- The entries older than the one with this number (R136). -/
def olderThan (list : List Outstanding) (number : Seq) : List Outstanding :=
  list.takeWhile fun e => e.number != number

/-- A received ECHO: stale without a match; a match removes the entry and every older one, counted as lost, and its round trip is
a sample or implausible. The t1 used is that of the matched entry (R136, R137). -/
def State.echoArrival (s : State) (c : CircuitId) (π : Path) (t4 : Time) (number : Seq) (t2 t3 : Time) : State :=
  let v := s.circuit c
  let list := v.probing.outstanding.get π
  match list.find? fun e => e.number == number with
  | none => s.setCircuit c (v.bumpCp π fun k => { k with echoesStale := k.echoesStale + 1 })
  | some e =>
    let lost := (olderThan list number).length
    let w := v.bumpCp π fun k => { k with probesLost := k.probesLost + BitVec.ofNat 32 lost }
    let probing := { v.probing with outstanding := v.probing.outstanding.set π (newerThan list number) }
    let s' := s.setCircuit c { w with probing := probing }
    let r := roundTrip e.t1 t2 t3 t4
    if plausible r then s'.delaySample c π r.toNat
    else s'.updCircuit c fun v => v.bumpCp π fun k => { k with echoesImplausible := k.echoesImplausible + 1 }

/-! ### Set Probing (R141) -/

/-- The probe timer after an accepted Set Probing: restarted or stopped by a changed interval of a circuit outside CLOSED (R131). -/
def Circuit.timerAfterSet (v : Circuit) (set : ProbeSettings) (now : Time) : Option Time :=
  if v.isOpen && v.probeSet.interval != set.interval then (if set.interval = 0 then none else some now)
  else v.probing.timer

/-- Set Probing accepted: settings replaced; for a circuit outside CLOSED the interval is applied and the alarms are judged
against the new limits (R131, R139 to R141). -/
def State.applySetProbing (s : State) (c : CircuitId) (set : ProbeSettings) : State :=
  let v := s.circuit c
  let s' := s.setCircuit c
    { v with probeSet := set, probing := { v.probing with timer := v.timerAfterSet set s.localTime } }
  if v.isOpen then ((s'.judgeDelay c .x).judgeDelay c .y).judgeAsymmetry c else s'

/-- Set Probing (R141). -/
def ruleSetProbing (ps : List Octet) (s : State) : State × List Octet :=
  match parseSetProbing ps with
  | .error e => (s, refuse e)
  | .ok (c, set) => (s.applySetProbing c set, okNone)

def execSetProbing (p : Port) (s : State) : Result := .next (serve p 0x16 ruleSetProbing s)

/-! ### Read Delay (R142) -/

/-- The seventeen octets of one path (R142). -/
def delayPathData (b : Probing) (π : Path) (p : Port) : List Octet :=
  let r := b.record.get π
  [octet (b.outstanding.get π).length, octet (b.postponed.get π)] ++ be 2 r.sampleCount ++ be 4 r.lastRoundTrip
    ++ beOption (r.minimum.get p) ++ beOption r.smoothed ++ [flagOctet r.alarm]

/-- The fifty-two data octets of Read Delay for a port (R142). -/
def delayData (v : Circuit) (c : CircuitId) (p : Port) : List Octet :=
  [octet c.val, octet (stateCode v.state), octet v.probeSet.interval] ++ be 4 v.probeSet.delayLimit
    ++ be 4 v.probeSet.asymmetryLimit ++ be 2 v.probing.number.toNat ++ [flagOctet v.probing.asymmetryAlarm]
    ++ beOption v.probing.asymmetry ++ delayPathData v.probing .x p ++ delayPathData v.probing .y p

/-- A port's minimum copy of a record set to none (R142). -/
def DelayRecord.clearMinimum (r : DelayRecord) (p : Port) : DelayRecord := { r with minimum := r.minimum.set p none }

/-- Read Delay: the snapshot, then the calling port's minimum copies of both paths become none (R142). -/
def ruleReadDelay (p : Port) (ps : List Octet) (s : State) : State × List Octet :=
  match parseCircuit ps with
  | .error e => (s, refuse e)
  | .ok c =>
    let v := s.circuit c
    let record : PerPath DelayRecord := ⟨v.probing.record.x.clearMinimum p, v.probing.record.y.clearMinimum p⟩
    (s.setCircuit c { v with probing := { v.probing with record := record } }, okData (delayData v c p))

def execReadDelay (p : Port) (s : State) : Result := .next (serve p 0x1C (ruleReadDelay p) s)

end Sys2Proof.Machine
end

