-- ==== Sys2Proof/Machine/CircuitTable.lean ====
section
/-! DEFINITION. The circuit table (chapter 1): the entries to each state, Open, Close, Hold, Resume and Read Circuit, and the
requests of the playout unit. -/

namespace Sys2Proof.Machine

/-! ### Entries to the circuit states (R5 to R9) -/

/-- CIRCUIT_STATE with the state code left and the state code entered (R4). -/
def State.postCircuitState (s : State) (c : CircuitId) (left entered : CState) : State :=
  s.post (.circuit c) .circuitState (hiLo (stateCode left) (stateCode entered))

/-- The circuit enters ACQUIRING: ring flushed, acquisition timer started (R5). A request outstanding finds another state than the one
that raised it and has no effect, so none stays (R4, R20). -/
def Circuit.intoAcquiring (v : Circuit) (now : Time) : Circuit :=
  let w := v.flush
  { w with state := .acquiring, requests := .reset, cursor := { w.cursor with acqTimer := some now } }

/-- The circuit enters RUNNING: hold barrier clear, acquisition timer stopped, sample window zeroed (R6). -/
def Circuit.intoRunning (v : Circuit) : Circuit :=
  { v with state := .running, holdBarrier := false, requests := .reset, cursor := { v.cursor with acqTimer := none },
           timing := v.timing.zeroWindow }

/-- The circuit enters HOLD: ring flushed, acquisition timer stopped, sample window discarded (R7). -/
def Circuit.intoHold (v : Circuit) : Circuit :=
  let w := v.flush
  { w with state := .hold, requests := .reset, cursor := { w.cursor with acqTimer := none },
           timing := v.timing.zeroWindow }

/-- The circuit enters CLOSING: packetizer and acquisition timer stopped, drain remaining loaded (R8, R39). -/
def Circuit.intoClosing (v : Circuit) (limit : Nat) : Circuit :=
  { v with state := .closing, requests := .reset, drainRemaining := limit, drainFrames := 0,
           packetizer := v.packetizer.stop, cursor := { v.cursor with acqTimer := none } }

/-- The line of a circuit that enters CLOSED: the framer returns to SEARCH and is idle (R29). -/
def Line.closed (l : Line) : Line :=
  { l with framer := .search, firstTestPassed := false, erroredRun := 0, history := [] }

/-- The circuit enters CLOSED (R9, R39, R74, R101, R130). -/
def Circuit.intoClosed (v : Circuit) : Circuit :=
  let cursor := v.cursor.flush
  { v with
    state := .closed
    holdBarrier := false
    blocksHeld := 0
    drainRemaining := 0
    drainFrames := 0
    requests := .reset
    line := v.line.closed
    packetizer := v.packetizer.stop
    ring := []
    cursor := { cursor with acqTimer := none }
    timing := v.timing.clearSat
    probing := { v.probing with timer := none, outstanding := .both [] } }

/-- Entry to CLOSED returns the circuit's blocks to the pool in one step (R9, R10). -/
def State.enterClosed (s : State) (c : CircuitId) : State :=
  let v := s.circuit c
  ((s.setCircuit c v.intoClosed).setFreeBlocks (s.freeBlocks + v.blocksHeld)).postCircuitState c v.state .closed

/-- A state change without effect on the pool, with its CIRCUIT_STATE (R4). -/
def State.changeTo (s : State) (c : CircuitId) (v' : Circuit) : State :=
  (s.setCircuit c v').postCircuitState c (s.circuit c).state v'.state

/-! ### Open Circuit (R12 to R14) -/

/-- Another circuit outside CLOSED has this remote tag (R13 check 3). -/
def State.tagInUse (s : State) (c : CircuitId) (tag : Nat) : Bool :=
  allCircuits.any fun d => d != c && (s.circuit d).isOpen && decide ((s.circuit d).layoutD.remoteTag = tag)

/-- The line at acceptance of Open Circuit: the framer starts in SEARCH at the next received bit in STRUCTURED mode, and reports
ALIGNED-NOT-REQUIRED in UNSTRUCTURED mode (R14, R29). -/
def Line.opened (l : Line) (mode : LineMode) : Line :=
  { l with
    framer := match mode with
      | .structured => .search
      | .unstructured => .notRequired
    firstTestPassed := false
    erroredRun := 0
    searchPos := l.rxCount
    history := [] }

/-- Path health at acceptance of Open Circuit (R14, R65). -/
def Circuit.healthOpened (v : Circuit) : Health :=
  { count := .both v.pathSet.high, degraded := .both false,
    active := match v.pathSet.mode with
      | .single => v.pathSet.preferred
      | .dual => v.health.active }

/-- The probe state at acceptance of Open Circuit (R14, R130). -/
def Circuit.probingOpened (v : Circuit) (now : Time) : Probing :=
  { Probing.reset with timer := if v.probeSet.interval = 0 then none else some now }

/-- The circuit at acceptance of Open Circuit: layout, blocks, counters, the serving blocks and the entry to ACQUIRING
(R14, R5). -/
def Circuit.opened (v : Circuit) (layout : Layout) (now : Time) : Circuit :=
  let formed : Circuit :=
    { v with
      layout := some layout
      blocksHeld := layout.neededBlocks
      cpCounters := .both .reset
      counters := .reset
      packetizer := .opened
      timing := .reset
      health := v.healthOpened
      probing := v.probingOpened now
      line := v.line.opened layout.mode
      ring := List.replicate layout.capacity .emptySlot
      cursor := .reset }
  formed.intoAcquiring now

/-- At acceptance of Open Circuit LINE_ALARM is posted once when the alarm set is not empty (R33). -/
def State.postOpenAlarms (s : State) (c : CircuitId) : State :=
  let a := (s.circuit c).alarmSet
  if a = 0 then s else s.post (.circuit c) .lineAlarm (BitVec.ofNat 16 a)

/-- Open Circuit accepted (R14): the circuit is opened, blocks are taken, the transmit path is judged once (R65), the line alarms are
posted, and CIRCUIT_STATE 0001h is posted. -/
def State.openCircuit (s : State) (c : CircuitId) (layout : Layout) : State :=
  let s' := (s.updCircuit c fun v => v.opened layout s.localTime).setFreeBlocks (s.freeBlocks - layout.neededBlocks)
  ((s'.judgeTx c).postOpenAlarms c).postCircuitState c .closed .acquiring

/-- Open Circuit: the checks of R12 and R13 in their order, then acceptance (R14). -/
def ruleOpenCircuit (ps : List Octet) (s : State) : State × List Octet :=
  match parseOpen ps with
  | .error e => (s, refuse e)
  | .ok (c, layout) =>
    if (s.circuit c).isOpen then (s, refuse .wrongState)
    else if s.tagInUse c layout.remoteTag then (s, refuse .duplicateTag)
    else if s.freeBlocks < layout.neededBlocks then (s, refuse .noSpace)
    else (s.openCircuit c layout, okNone)

def execOpenCircuit (p : Port) (s : State) : Result := .next (serve p 0x10 ruleOpenCircuit s)

/-! ### A request for underrun (R91) -/

/-- The underrun request for an EMPTY head is taken: in RUNNING the circuit enters ACQUIRING and UNDERRUN is posted with the head's
sequence number, and in any other state it has no effect (R91). -/
def State.takeUnderrun (s : State) (c : CircuitId) (head : Seq) : State :=
  let v := s.circuit c
  if v.state = .running then
    (s.changeTo c (v.intoAcquiring s.localTime)).post (.circuit c) .underrun head
  else s.setCircuit c { v with requests := { v.requests with underrun := none } }

/-- An underrun request that waits is taken (R91). -/
def State.settleUnderrun (s : State) (c : CircuitId) : State :=
  match (s.circuit c).requests.underrun with
  | some r => s.takeUnderrun c r.head
  | none => s

/-! ### Close Circuit (R15) -/

/-- The ring is drained when its filled count is 0 or head is unset (R15). -/
def Circuit.drained (v : Circuit) : Bool := decide (v.cursor.filledCount = 0) || v.cursor.head.isNone

/-- Close Circuit on the circuit as it stands (R15). -/
def State.closeSettled (s : State) (c : CircuitId) (limit : Nat) : State :=
  let v := s.circuit c
  if limit = 0 ∨ v.drained then s.enterClosed c
  else if v.state = .closing then s.setCircuit c { v with drainRemaining := limit, drainFrames := 0 }
  else s.changeTo c (v.intoClosing limit)

/-- The underrun request that waits in RUNNING had reached the circuit table before the Close Circuit of port `p` did: the take that raised it
came first (R99, R20). -/
def Circuit.underrunFirst (v : Circuit) (p : Port) : Bool :=
  match v.requests.underrun with
  | some r => decide (v.state = .running) && !r.closesAhead.get p
  | none => false

/-- Close Circuit of port `p` accepted for a circuit outside CLOSED (R15). An underrun request that reached the circuit table before it is
taken first: the ring is then drained, and the Close closes at once. One that came after it finds no RUNNING circuit and has no effect
(R20, R99; DEDUCED, assumption 24). -/
def State.closeCircuit (s : State) (p : Port) (c : CircuitId) (limit : Nat) : State :=
  (if (s.circuit c).underrunFirst p then s.settleUnderrun c else s).closeSettled c limit

/-- Close Circuit (R15). -/
def ruleCloseCircuit (p : Port) (ps : List Octet) (s : State) : State × List Octet :=
  match parseClose ps with
  | .error e => (s, refuse e)
  | .ok (c, limit) =>
    if (s.circuit c).isOpen then (s.closeCircuit p c limit, okNone) else (s, refuse .wrongState)

def execCloseCircuit (p : Port) (s : State) : Result := .next (serve p 0x11 (ruleCloseCircuit p) s)

/-! ### Hold Circuit and Resume Circuit (R17, R18) -/

/-- Hold Circuit is accepted in RUNNING, and in ACQUIRING with the hold barrier clear (R17). -/
def Circuit.holdAllowed (v : Circuit) : Bool :=
  decide (v.state = .running) || (decide (v.state = .acquiring) && !v.holdBarrier)

/-- Hold Circuit (R17). -/
def ruleHoldCircuit (ps : List Octet) (s : State) : State × List Octet :=
  match parseCircuit ps with
  | .error e => (s, refuse e)
  | .ok c =>
    if (s.circuit c).holdAllowed then (s.changeTo c (s.circuit c).intoHold, okNone) else (s, refuse .wrongState)

def execHoldCircuit (p : Port) (s : State) : Result := .next (serve p 0x12 ruleHoldCircuit s)

/-- Resume Circuit accepted: the circuit enters ACQUIRING with the hold barrier set (R18). -/
def Circuit.resumed (v : Circuit) (now : Time) : Circuit := { v.intoAcquiring now with holdBarrier := true }

/-- Resume Circuit (R18). -/
def ruleResumeCircuit (ps : List Octet) (s : State) : State × List Octet :=
  match parseCircuit ps with
  | .error e => (s, refuse e)
  | .ok c =>
    if (s.circuit c).state = .hold then (s.changeTo c ((s.circuit c).resumed s.localTime), okNone)
    else (s, refuse .wrongState)

def execResumeCircuit (p : Port) (s : State) : Result := .next (serve p 0x13 ruleResumeCircuit s)

/-! ### Read Circuit (R19) -/

/-- The data octets of Read Circuit, 19 and the slot list (R19). With no layout every layout field is 0. -/
def circuitData (v : Circuit) (c : CircuitId) (freeBlocks : Nat) : List Octet :=
  let l := v.layoutD
  [octet c.val, octet (stateCode v.state), flagOctet v.holdBarrier, flagOctet v.layout.isSome,
   flagOctet (decide (l.mode = .structured)), octet l.fpp, octet l.k]
    ++ be 2 l.localTag ++ be 2 l.remoteTag ++ [octet l.acqLimit, octet l.lossThreshold] ++ be 2 v.blocksHeld
    ++ be 2 freeBlocks ++ [octet v.drainRemaining, octet l.slots.length] ++ l.slots.map octet

/-- Read Circuit (R19). -/
def ruleReadCircuit (ps : List Octet) (s : State) : State × List Octet :=
  match parseCircuit ps with
  | .error e => (s, refuse e)
  | .ok c => (s, okData (circuitData (s.circuit c) c s.freeBlocks))

def execReadCircuit (p : Port) (s : State) : Result := .next (serve p 0x18 ruleReadCircuit s)

/-! ### Requests of the playout unit (R4, R20) -/

/-- The request of acquisition complete is taken: in ACQUIRING the circuit enters RUNNING, and in any other state it has no effect
(R6). -/
def State.takeAcquisitionComplete (s : State) (c : CircuitId) : State :=
  let v := s.circuit c
  let w := { v with requests := { v.requests with acquisitionComplete := false } }
  if v.state = .acquiring then s.changeTo c w.intoRunning else s.setCircuit c w

/-- ACQUISITION_COMPLETE (R6). -/
def execAcquisitionComplete (c : CircuitId) (s : State) : Result :=
  .next (if (s.circuit c).requests.acquisitionComplete then s.takeAcquisitionComplete c else s)

/-- UNDERRUN (R91). -/
def execUnderrun (c : CircuitId) (s : State) : Result := .next (s.settleUnderrun c)

/-- The overrun request is taken: in RUNNING the circuit enters ACQUIRING and OVERRUN is posted with the sequence number of the
eighth early arrival, and in any other state it has no effect (R81). -/
def State.takeOverrun (s : State) (c : CircuitId) (n : Seq) : State :=
  let v := s.circuit c
  if v.state = .running then
    (s.changeTo c (v.intoAcquiring s.localTime)).post (.circuit c) .overrun n
  else s.setCircuit c { v with requests := { v.requests with overrun := none } }

/-- OVERRUN (R81). -/
def execOverrun (c : CircuitId) (s : State) : Result :=
  match (s.circuit c).requests.overrun with
  | some n => .next (s.takeOverrun c n)
  | none => .next s

/-- The drain-complete request is taken: in CLOSING the circuit enters CLOSED, and in any other state it has no effect (R16). -/
def State.takeDrainComplete (s : State) (c : CircuitId) : State :=
  let v := s.circuit c
  if v.state = .closing then s.enterClosed c
  else s.setCircuit c { v with requests := { v.requests with drainComplete := false } }

/-- DRAIN_COMPLETE (R16). -/
def execDrainComplete (c : CircuitId) (s : State) : Result :=
  .next (if (s.circuit c).requests.drainComplete then s.takeDrainComplete c else s)

/-- Drain-limit expiry: drain remaining of a CLOSING circuit has reached 0 (R16). -/
def Circuit.drainExpired (v : Circuit) : Bool := decide (v.state = .closing) && decide (v.drainRemaining = 0)

/-- DRAIN_LIMIT_EXPIRY: the circuit enters CLOSED, and what the ring still holds is discarded (R16). -/
def execDrainLimitExpiry (c : CircuitId) (s : State) : Result :=
  .next (if (s.circuit c).drainExpired then s.enterClosed c else s)

end Sys2Proof.Machine
end

