-- ==== Sys2Proof/Machine/Network.lean ====
section
/-! DEFINITION. The Ethernet MACs of the paths: departures (R60) and the reception and classification of frames (sections 3.2 and
4.4), and Read Paths. -/

namespace Sys2Proof.Machine

/-! ### Departures (R48, R60) -/

/-- A data field shorter than 46 octets is padded with 00h to 46 (R48). -/
def padded (field : List Octet) : List Octet := field ++ List.replicate (46 - field.length) 0

/-- The transport packet of an entry as it leaves: local time is appended as t1 of a PROBE or t3 of an ECHO (R53, R60). -/
def QueueEntry.stamped (e : QueueEntry) (now : Time) : List Octet :=
  match e.kind with
  | .data => e.packet
  | .probe => e.packet ++ be 4 now.toNat
  | .echo => e.packet ++ be 4 now.toNat

/-- The Ethernet frame of an entry as it leaves, check sequence included (section 3.2). -/
def QueueEntry.frame (e : QueueEntry) (now : Time) : List Octet :=
  let fields := be 6 e.destination.toNat ++ be 6 e.source.toNat ++ be 2 e.typeCode.toNat ++ padded (e.stamped now)
  fields ++ fcs fields

/-- The MAC takes the head entry while its link is UP and it is not sending a frame: in the unit of local time in which the gap after the
last frame ends (R60, assumption 8). -/
def PathUnit.departureDue (u : PathUnit) : Bool :=
  u.linkUp && decide (u.macBusyNs < Config.unitNs) && !u.queue.isEmpty

/-- The path unit after the departure of its head entry: the MAC is busy with the frame and the gap that follows, counted from the
nanosecond at which the gap before it ends, so that no time is lost or won from frame to frame (R60). -/
def PathUnit.departed (u : PathUnit) (frame : List Octet) : PathUnit :=
  { u with queue := u.queue.drop 1, macFrame := some frame,
           macBusyNs := u.macBusyNs + frame.length * Config.octetNs + Config.interFrameNs }

/-- FRAME_DEPARTURE of the head entry: it leaves the queue with its timestamp, the sent counter of its circuit rises, and a PROBE
is handed to the probe unit (R60). -/
def State.depart (s : State) (π : Path) (e : QueueEntry) : State :=
  let u := s.pathUnit π
  let s' := (s.setPath π (u.departed (e.frame s.localTime))).updCircuit e.circuit fun v =>
    v.bumpCp π fun k => { k with sent := k.sent + 1 }
  match e.kind with
  | .probe => s'.probeDeparted e.circuit π e.number s.localTime
  | _ => s'

def execFrameDeparture (π : Path) (s : State) : Result :=
  match (s.pathUnit π).departureDue, (s.pathUnit π).queue with
  | true, e :: _ => .next (s.depart π e)
  | _, _ => .next s

/-! ### Reception (R48, R49, R51, R62 to R64) -/

/-- A received frame is in error when its length is outside 64..1518 or its check sequence is wrong (R48). -/
def frameInError (octets : List Octet) : Bool :=
  !within 64 1518 octets.length || fcs (octets.take (octets.length - 4)) != octets.drop (octets.length - 4)

/-- The MAC passes a correct frame on when its type code is the path's and not 0000h, and its destination is the path's source
address or a group address (R48). -/
def PathUnit.passes (u : PathUnit) (octets : List Octet) : Bool :=
  let destination := macOf (octets.take 6)
  let typeCode := BitVec.ofNat 16 (fromBe ((octets.drop 12).take 2))
  decide (u.typeCode ≠ 0) && decide (typeCode = u.typeCode)
    && (decide (destination = u.source) || (octets.getD 0 0).getLsbD 0)

/-- The data field of a frame: what stands between the type code and the check sequence (section 3.2). -/
def dataField (octets : List Octet) : List Octet := (octets.drop 14).take (octets.length - 18)

/-- The fields of a received transport header (section 3.3). The bits that R51 does not read are not here. -/
structure RxHeader where
  version : Nat
  kind : Nat
  l : Bool
  r : Bool
  p : Bool
  tag : Nat
  number : Seq
  fpp : Nat
  deriving DecidableEq, Repr

/-- Reads the header at the start of a data field (section 3.3, R51). -/
def rxHeader (field : List Octet) : RxHeader :=
  let o := field.getD 0 0
  { version := o.toNat / 64, kind := o.toNat / 16 % 4, l := o.getLsbD 3, r := o.getLsbD 2, p := o.getLsbD 1,
    tag := fromBe ((field.drop 1).take 2) % 4096, number := BitVec.ofNat 16 (fromBe ((field.drop 3).take 2)),
    fpp := (field.getD 5 0).toNat }

/-- A 32-bit timestamp at a place of a body (R53). -/
def timestampAt (body : List Octet) (at_ : Nat) : Time := BitVec.ofNat 32 (fromBe ((body.drop at_).take 4))

/-- The circuit outside CLOSED whose remote tag is this one (R63). -/
def State.circuitOfTag (s : State) (tag : Nat) : Option CircuitId :=
  allCircuits.find? fun c => (s.circuit c).isOpen && decide ((s.circuit c).layoutD.remoteTag = tag)

/-- A received DATA body is correct when its length is the expected one, or in the padded case (R49). -/
def bodyCorrect (l : Layout) (p : Bool) (field : List Octet) : Bool :=
  decide (field.length - 6 = l.expectedBody p) || (decide (l.expectedBody p < 40) && decide (field.length = 46))

/-- What becomes of a frame that the MAC passed on (section 4.4). -/
inductive RxClass where
  | format
  | unknownTag
  | data (c : CircuitId) (a : Arrival)
  | probe (c : CircuitId) (number : Seq) (t1 : List Octet)
  | echo (c : CircuitId) (number : Seq) (t2 t3 : Time)
  deriving DecidableEq, Repr

/-- Classification: version and kind, then the tag, then the checks of the kind under the matched circuit's layout (R63, R64). -/
def State.classify (s : State) (octets : List Octet) : RxClass :=
  let field := dataField octets
  let h := rxHeader field
  let body := field.drop 6
  if h.version ≠ 1 ∨ h.kind = 3 then .format
  else
    match s.circuitOfTag h.tag with
    | none => .unknownTag
    | some c =>
      let l := (s.circuit c).layoutD
      match h.kind with
      | 0 =>
        if h.fpp = l.fpp ∧ bodyCorrect l h.p field then
          .data c { seq := h.number, l := h.l, r := h.r, p := h.p,
                    frames := if h.p then chunks l.fpp l.octetsPerFrame body else [] }
        else .format
      | 1 => .probe c h.number (body.take 4)
      | _ => .echo c h.number (timestampAt body 4) (timestampAt body 8)

/-- A frame that the MAC passed on is counted once or handed on once (R64). -/
def State.receiveClassified (s : State) (π : Path) (k : RxClass) : State :=
  let u := s.pathUnit π
  match k with
  | .format => s.setPath π { u with format := u.format + 1 }
  | .unknownTag => s.setPath π { u with unknownTag := u.unknownTag + 1 }
  | .data c a => s.dataArrival c π a
  | .probe c number t1 => s.answerProbe c π s.localTime number t1
  | .echo c number t2 t3 => s.echoArrival c π s.localTime number t2 t3

/-- FRAME_RECEIVED: the MAC filters the frame, and one that it passes on is classified (R48, R62 to R64). -/
def State.receiveFrame (s : State) (π : Path) (octets : List Octet) : State :=
  let u := s.pathUnit π
  if frameInError octets then s.setPath π { u with frameErrors := u.frameErrors + 1 }
  else if u.passes octets then s.receiveClassified π (s.classify octets)
  else s

def execFrameReceived (π : Path) (octets : List Octet) (s : State) : Result := .next (s.receiveFrame π octets)

/-! ### Read Paths (R71, R72) -/

/-- The eleven data octets for a path (R71). -/
def pathData (u : PathUnit) (π : Path) : List Octet :=
  [octet (0x10 + pathCode π), flagOctet u.linkUp] ++ be 2 u.typeCode.toNat ++ be 6 u.source.toNat
    ++ [octet u.queue.length]

/-- The twenty-five data octets for a circuit (R72). -/
def circuitPathData (v : Circuit) (c : CircuitId) : List Octet :=
  let t := v.pathSet
  [octet c.val, flagOctet (decide (t.mode = .single)), octet (pathCode t.preferred), octet (pathCode v.health.active),
   octet (pathBits t.receiveSet)]
    ++ be 6 t.destination.x.toNat ++ be 6 t.destination.y.toNat
    ++ [octet t.goodStep, octet t.badStep, octet t.low, octet t.high,
        octet v.health.count.x, flagOctet v.health.degraded.x, octet v.health.count.y, flagOctet v.health.degraded.y]

/-- Read Paths (R71, R72). -/
def ruleReadPaths (ps : List Octet) (s : State) : State × List Octet :=
  match parseReadPaths ps with
  | .error e => (s, refuse e)
  | .ok (.path π) => (s, okData (pathData (s.pathUnit π) π))
  | .ok (.circuit c) => (s, okData (circuitPathData (s.circuit c) c))

def execReadPaths (p : Port) (s : State) : Result := .next (serve p 0x1B ruleReadPaths s)

end Sys2Proof.Machine
end

