-- ==== Sys2Proof/Machine/Reference.lean ====
section
/-! DEFINITION. The station reference monitor (chapter 7): REF edges, window completions, absence expiries, Configure Reference and
Read Reference. -/

namespace Sys2Proof.Machine

/-! ### Windows (R121, R122) -/

/-- The deviation of a window: its edge count minus 2,048,000 (R122). -/
def deviation (edges : Nat) : Int := (edges : Int) - Config.refNominal

/-- The judgement of a window against a tolerance (R122). -/
def inRange (tolerance edges : Nat) : Bool := decide ((deviation edges).natAbs ≤ tolerance)

/-- The offset of a window: deviation × 15625 / 32 ppb, to nearest, ties away from zero (R122). -/
def windowOffset (edges : Nat) : Int := roundAway (deviation edges * 15625) 32

/-- The edge count raised by 1, saturating at 4,294,967,295 (R121). -/
def countEdge (edges : Nat) : Nat := min 4294967295 (edges + 1)

/-- The stored tolerance and Q become the values in use at the start of a window (R127). -/
def RefMonitor.adopt (r : RefMonitor) : RefMonitor :=
  { r with toleranceInUse := r.toleranceStored, qInUse := r.qStored }

/-- The qualification count after an in-range window: up by 1 in QUALIFYING, 1 in ABSENT and OUT_OF_RANGE, kept in GOOD (R124). -/
def RefMonitor.nextQual (r : RefMonitor) : Nat :=
  match r.state with
  | .qualifying => r.qualCount + 1
  | .good => r.qualCount
  | .absent | .outOfRange => 1

/-- The state after a window (R124). -/
def RefMonitor.nextState (r : RefMonitor) (good : Bool) : RefState :=
  if !good then .outOfRange
  else if r.state = .good then .good
  else if r.qInUse ≤ r.nextQual then .good
  else .qualifying

/-- The monitor at the completion of a window that began at `start` and counted `edges`: judgement, state, last offset, and the next
window begun with the values stored now (R121, R122, R124, R125, R127). An in-range window that ends in GOOD either completed the
qualification or was completed in GOOD, and updates the last offset. -/
def RefMonitor.complete (r : RefMonitor) (start : Time) (edges : Nat) : RefMonitor :=
  let good := inRange r.toleranceInUse edges
  let next := r.nextState good
  let judged :=
    { r with
      state := next
      qualCount := if good then r.nextQual else 0
      lastCount := edges
      lastInRange := some good
      lastOffset := if next = RefState.good then windowOffset edges else r.lastOffset
      offsetValid := r.offsetValid || decide (next = RefState.good)
      window := some ⟨start + BitVec.ofNat 32 Config.refWindowUnits, 0⟩ }
  judged.adopt

/-- A change of the monitor state posts REFERENCE_STATE with the state left and the state entered (R126). -/
def State.postRefChange (s : State) (left entered : RefState) : State :=
  if left = entered then s else s.post .reference .referenceState (hiLo (refCode left) (refCode entered))

/-- REFERENCE_WINDOW_COMPLETION: the monitor judges the window, a state change is posted, and an updated offset is handed to the
timing unit (R122, R124 to R126). -/
def State.completeWindow (s : State) (w : RefWindow) : State :=
  let r := s.ref.complete w.start w.edges
  let s' := (s.setRef r).postRefChange s.ref.state r.state
  if r.state = .good then s'.handOffset r.lastOffset else s'

/-- Local time has reached the end of the window in progress (R121). -/
def State.windowDue (s : State) : Option RefWindow :=
  match s.ref.window with
  | some w => if Config.refWindowUnits ≤ elapsed w.start s.localTime then some w else none
  | none => none

/-- The window completed if local time has reached its end: an edge at that time belongs to the next window (R121). -/
def State.settleWindow (s : State) : State :=
  match s.windowDue with
  | some w => s.completeWindow w
  | none => s

/-- The monitor at a rising edge of REF: it starts a window when none is in progress, counting itself, and otherwise raises the
edge count; the absence timer restarts (R121, R123). -/
def RefMonitor.edge (r : RefMonitor) (now : Time) : RefMonitor :=
  match r.window with
  | none => { r.adopt with window := some ⟨now, 1⟩, absenceTimer := some now }
  | some w => { r with window := some { w with edges := countEdge w.edges }, absenceTimer := some now }

/-- A rising edge of REF (R121). -/
def State.risingEdge (s : State) : State :=
  let s' := s.settleWindow
  s'.setRef (s'.ref.edge s.localTime)

/-- REFERENCE_WINDOW_START (R121): a rising edge of REF; the first while no window is in progress starts one. -/
def execReferenceWindowStart (s : State) : Result := .next s.risingEdge

/-- REF_EDGE (R121): a rising edge of REF inside a window in progress. -/
def execRefEdge (s : State) : Result := .next s.risingEdge

/-- REFERENCE_WINDOW_COMPLETION (R122). -/
def execReferenceWindowCompletion (s : State) : Result := .next s.settleWindow

/-! ### Absence (R123) -/

/-- The absence timer has run for 10 µs (R123). -/
def State.absenceDue (s : State) : Bool :=
  match s.ref.absenceTimer with
  | some start => decide (Config.absenceUnits ≤ elapsed start s.localTime)
  | none => false

/-- An absence expiry discards the window in progress and sets the monitor to ABSENT (R123). The edge count goes with the window: R123 gives it no
value after an expiry (DESIGN CHOICE, assumption 30). -/
def RefMonitor.absent (r : RefMonitor) : RefMonitor :=
  { r with state := .absent, window := none, qualCount := 0, absenceTimer := none }

def State.absenceExpiry (s : State) : State :=
  (s.setRef s.ref.absent).postRefChange s.ref.state .absent

/-- ABSENCE_EXPIRY (R123, R126). -/
def execAbsenceExpiry (s : State) : Result := .next (if s.absenceDue then s.absenceExpiry else s)

/-! ### Commands (R127, R128) -/

/-- Configure Reference: the three settings stored together (R127). -/
def ruleConfigureReference (ps : List Octet) (s : State) : State × List Octet :=
  match parseConfigureReference ps with
  | .error e => (s, refuse e)
  | .ok (tolerance, q, word) =>
    (s.setRef { s.ref with toleranceStored := tolerance, qStored := q, alignmentWord := word }, okNone)

def execConfigureReference (p : Port) (s : State) : Result := .next (serve p 0x20 ruleConfigureReference s)

/-- The last window judgement: 00h out of range, 01h in range, FFh none (R128). -/
def judgementOctet (b : Option Bool) : Octet :=
  match b with
  | none => 0xFF
  | some true => 1
  | some false => 0

/-- The eighteen data octets of Read Reference (R128). The last offset reads 0 when not valid. -/
def referenceData (r : RefMonitor) : List Octet :=
  [octet (refCode r.state), octet r.qualCount, octet r.toleranceStored, octet r.qStored, octet r.toleranceInUse,
   octet r.qInUse, r.alignmentWord.setWidth 8, flagOctet r.window.isSome]
    ++ be 4 r.lastCount ++ [judgementOctet r.lastInRange, flagOctet r.offsetValid]
    ++ beInt (if r.offsetValid then r.lastOffset else 0)

/-- Read Reference (R128). -/
def ruleReadReference (ps : List Octet) (s : State) : State × List Octet :=
  match parseNone ps with
  | .error e => (s, refuse e)
  | .ok _ => (s, okData (referenceData s.ref))

def execReadReference (p : Port) (s : State) : Result := .next (serve p 0x21 ruleReadReference s)

end Sys2Proof.Machine
end

