-- ==== Sys2Proof/Machine/Ports.lean ====
section
/-! DEFINITION. The control ports (chapter 9): transactions, octets, taking a command frame, hand-off with the authority check,
result frames, START-UP, and the controller reset event at a port. -/

namespace Sys2Proof.Machine

/-! ### Taking a command frame (R147, R149, R152) -/

/-- A command frame is complete with its code octet, its length octet and as many parameter octets as that gives (R54). -/
def frameComplete (octets : List Octet) : Bool :=
  match octets with
  | _ :: n :: ps => decide (n.toNat ≤ ps.length)
  | _ => false

/-- The command frame that complete octets spell (section 3.5). -/
def frameOf (octets : List Octet) : CommandFrame :=
  match octets with
  | code :: n :: ps => ⟨code, ps.take n.toNat⟩
  | _ => ⟨0, []⟩

/-- A port in COMMAND holds a complete frame (R147). -/
def PortUnit.frameReady (u : PortUnit) : Bool := decide (u.phase = .command) && frameComplete u.partialFrame

/-- A frame of a listed code leaves the port: a privileged one from a port that is not the holder is refused by the authority unit
with NO_AUTHORITY, and any other goes to its owner (R149). -/
def State.handOn (s : State) (p : Port) (f : CommandFrame) : State :=
  if privileged f.code && decide (s.holder ≠ some p) then s.setTransit p (some (.returning (refuse .noAuthority)))
  else s.setTransit p (some (.atOwner f))

/-- The port once its frame is complete: no partial frame, and the transaction takes no other (R146, R147). -/
def PortUnit.frameTaken (u : PortUnit) : PortUnit :=
  { u with
    partialFrame := []
    transaction := u.transaction.map fun t => { t with frameTaken := true } }

/-- Completion of a frame: the port answers an unknown code itself with INVALID_COMMAND and enters RESULT; otherwise it enters
EXECUTING and hands the frame on, or holds it as the waiting frame while an orphan is outstanding (R147, R149, R152). -/
def State.completeFrame (s : State) (p : Port) : State :=
  let u := s.port p
  let f := frameOf u.partialFrame
  if (commandOf f.code p).isNone then
    s.setPort p { u.frameTaken with phase := .result, result := some (refuse .invalidCommand), readPos := 0 }
  else if u.orphan then
    s.setPort p { u.frameTaken with phase := .executing, waiting := some f }
  else
    (s.setPort p { u.frameTaken with phase := .executing, inFlight := some f }).handOn p f

/-- A frame that is complete is handed on before the port takes anything else (R147, assumption 6). -/
def State.settlePort (s : State) (p : Port) : State := if (s.port p).frameReady then s.completeFrame p else s

/-- COMMAND_FRAME_COMPLETE (R147, R149, R152). -/
def execCommandFrameComplete (p : Port) (s : State) : Result := .next (s.settlePort p)

/-! ### Transactions (R144 to R148, R150) -/

/-- TRANSACTION_START: the assertion of CSEL forms the status octet and fixes the phase at start. While RESET_N is asserted no
transaction is taken (R144, R146). -/
def State.startTransaction (s : State) (p : Port) : State :=
  let u := s.port p
  if s.resetAsserted || u.transaction.isSome then s
  else
    let t : Transaction :=
      { access := none, phaseAtStart := u.phase, status := s.statusOctet p, statusSent := false, frameTaken := false,
        voided := false }
    s.setPort p { u with transaction := some t }

def execTransactionStart (p : Port) (s : State) : Result := .next ((s.settlePort p).startTransaction p)

/-- The port when its status octet has been sent whole: the flags it showed as 1 are cleared (R148). -/
def PortUnit.statusSent (u : PortUnit) (t : Transaction) : PortUnit :=
  { u with
    framing := u.framing && !t.status.getLsbD 5
    ignored := u.ignored && !t.status.getLsbD 4
    transaction := some { t with statusSent := true } }

/-- STATUS_OCTET_SENT: the first output octet of the transaction has been sent whole (R148). -/
def execStatusOctetSent (p : Port) (s : State) : Result :=
  match (s.port p).transaction with
  | some t => if t.statusSent then .next s else .next (s.setPort p ((s.port p).statusSent t))
  | none => .next s

/-- The access kind that an access octet gives: 01h makes a write transaction, any other value a read transaction (R145). -/
def accessOf (o : Octet) : Access := if o = 0x01 then .write else .read

/-- A written octet of a write transaction, by the phase at start: taken into the command frame, discarded with IGNORED set, or
discarded with no flag in START-UP and in a void transaction (R146, R147, R151). -/
def PortUnit.writtenOctet (u : PortUnit) (t : Transaction) (o : Octet) : PortUnit :=
  if t.voided then u
  else
    match t.phaseAtStart with
    | .startUp => u
    | .command => if t.frameTaken then { u with ignored := true } else { u with partialFrame := u.partialFrame ++ [o] }
    | .executing => { u with ignored := true }
    | .result => { u with ignored := true }

/-- A complete input octet of a transaction: the access octet first, then written octets in a write transaction; a read transaction
does not look at them (R145). -/
def PortUnit.inputOctet (u : PortUnit) (t : Transaction) (o : Octet) : PortUnit :=
  match t.access with
  | none => { u with transaction := some { t with access := some (accessOf o) } }
  | some .read => u
  | some .write => u.writtenOctet t o

/-- WRITTEN_OCTET: an input octet completes on a port (R145 to R148). Outside a transaction there is none. -/
def State.inputOctet (s : State) (p : Port) (o : Octet) : State :=
  match (s.port p).transaction with
  | some t => s.setPort p ((s.port p).inputOctet t o)
  | none => s

def execWrittenOctet (p : Port) (o : Octet) (s : State) : Result := .next ((s.settlePort p).inputOctet p o)

/-- The port when an octet of its pending result has been sent whole: the read position rises, and after the last octet the result
is discarded and the port enters COMMAND (R150). -/
def PortUnit.resultOctetSent (u : PortUnit) (r : List Octet) : PortUnit :=
  if r.length ≤ u.readPos + 1 then { u with phase := .command, result := none, readPos := 0 }
  else { u with readPos := u.readPos + 1 }

/-- Whether the output octet after the status octet is one of the pending result: the transaction began in RESULT and is not void
(R146, R151). -/
def Transaction.givesResult (t : Transaction) : Bool :=
  decide (t.phaseAtStart = .result) && t.statusSent && !t.voided

/-- RESULT_OCTET_SENT (R150). Where no result octet is being given, the octet sent was 00h and changes nothing (R146). -/
def execResultOctetSent (p : Port) (s : State) : Result :=
  match (s.port p).transaction, (s.port p).result with
  | some t, some r => if t.givesResult then .next (s.setPort p ((s.port p).resultOctetSent r)) else .next s
  | _, _ => .next s

/-- The port at the release of CSEL: a frame left incomplete is discarded and sets FRAMING (R147). -/
def PortUnit.endTransaction (u : PortUnit) : PortUnit :=
  if u.partialFrame.isEmpty then { u with transaction := none }
  else { u with transaction := none, partialFrame := [], framing := true }

/-- TRANSACTION_END: the release of CSEL (R147). -/
def State.endTransaction (s : State) (p : Port) : State :=
  if (s.port p).transaction.isSome then s.setPort p (s.port p).endTransaction else s

def execTransactionEnd (p : Port) (s : State) : Result := .next ((s.settlePort p).endTransaction p)

/-- The octet that CDO carries: FFh (held high) outside a transaction and while RESET_N is asserted, the status octet first, then the
octets of R146 (R145, R146, R151). R145 holds CDO high while CSEL is high and while RESET_N is asserted, and says nothing of a CSEL that
was asserted during reset and is still low after the release, with no transaction taken: there too it is FFh (DESIGN CHOICE,
assumption 15). -/
def State.cdoOctet (s : State) (p : Port) : Octet :=
  let u := s.port p
  match u.transaction with
  | none => 0xFF
  | some t =>
    if s.resetAsserted then 0xFF
    else if !t.statusSent then t.status
    else if t.givesResult then
      match u.result with
      | some r => r.getD u.readPos 0
      | none => 0
    else 0

/-! ### Results (R150, R152) -/

/-- A result frame reaches a port: the orphaned command's is discarded and a waiting frame is handed on; otherwise, in EXECUTING
with a command in flight, it becomes the pending result (R150, R152). -/
def State.resultArrives (s : State) (p : Port) (r : List Octet) : State :=
  let u := s.port p
  if u.orphan then
    match u.waiting with
    | some f =>
      ((s.setTransit p none).setPort p { u with orphan := false, waiting := none, inFlight := some f }).handOn p f
    | none => (s.setTransit p none).setPort p { u with orphan := false }
  else if u.phase = .executing ∧ u.inFlight.isSome then
    (s.setTransit p none).setPort p { u with phase := .result, result := some r, readPos := 0, inFlight := none }
  else s

/-- RESULT_ARRIVAL (R150, R152). -/
def execResultArrival (p : Port) (s : State) : Result :=
  match s.transit.get p with
  | some (.returning r) => .next (s.resultArrives p r)
  | _ => .next s

/-! ### START-UP and RESET_N (R144) -/

/-- RESET_N_RELEASE: each port enters START-UP with nothing held, and the 1 ms count starts (R144). -/
def State.releaseReset (s : State) : State :=
  { s with resetAsserted := false, startUpFrom := some s.localTime, ports := .both .reset, transit := .both none }

def execResetNRelease (s : State) : Result := .next (if s.resetAsserted then s.releaseReset else s)

/-- START-UP leaves for COMMAND (R144). -/
def PortUnit.endStartUp (u : PortUnit) : PortUnit := if u.phase = .startUp then { u with phase := .command } else u

/-- 1 ms of local time has passed since the release (R144). -/
def State.startUpDue (s : State) : Bool :=
  match s.startUpFrom with
  | some start => decide (Config.startUpUnits ≤ elapsed start s.localTime)
  | none => false

/-- START_UP_END: each port leaves START-UP for COMMAND (R144). -/
def State.endStartUp (s : State) : State :=
  { s with startUpFrom := none, ports := ⟨s.ports.cp0.endStartUp, s.ports.cp1.endStartUp⟩ }

def execStartUpEnd (s : State) : Result := .next (if s.startUpDue then s.endStartUp else s)

/-- DEVICE_RESET: power-on, or RESET_N asserted. The whole part takes its reset values (R144 and the reset rule of every block). The
levels of LINKX and LINKY are inputs and stay as they are, and each link state is read from its level (R57). The queue of
commands and the count of free choices are the model's and stay too. -/
def State.deviceReset (s : State) : State :=
  { State.resetWith ⟨s.paths.x.linkPin, s.paths.y.linkPin⟩ with freeCount := s.freeCount, pending := s.pending }

def execDeviceReset (s : State) : Result := .next s.deviceReset

/-! ### Controller reset event at the port (R151) -/

/-- The port at a controller reset event: partial frame, waiting frame or pending result discarded, or the command in flight
orphaned; the port enters COMMAND and the transaction is void (R151). -/
def PortUnit.controllerReset (u : PortUnit) : PortUnit :=
  let transaction := u.transaction.map fun t => { t with voided := true }
  match u.phase with
  | .startUp => { u with transaction := transaction }
  | .command => { u with partialFrame := [], transaction := transaction }
  | .executing =>
    match u.waiting with
    | some _ => { u with phase := .command, waiting := none, transaction := transaction }
    | none => { u with phase := .command, orphan := u.orphan || u.inFlight.isSome, inFlight := none, transaction := transaction }
  | .result => { u with phase := .command, result := none, readPos := 0, transaction := transaction }

/-- CONTROLLER_RESET_AT_PORT: a frame whose last octet was complete has been handed on and is orphaned (R151, R154). -/
def State.controllerResetAtPort (s : State) (p : Port) : State :=
  let s' := s.settlePort p
  s'.setPort p (s'.port p).controllerReset

end Sys2Proof.Machine
end

