-- ==== Sys2Proof/Machine/Supervision.lean ====
section
/-! DEFINITION. Controller supervision and authority (chapter 10): the challenge, the windows, standing and eligibility, the
controller reset event, and the holder of authority. -/

namespace Sys2Proof.Machine

/-! ### Challenge and answer (R157) -/

/-- An advance of the challenge register: the exclusive-or of bits 15, 14, 12 and 3 enters at bit 0 of the value shifted left by one
place (R157). -/
def challengeAdvance (v : BitVec 16) : BitVec 16 :=
  (v <<< 1) ||| (if ((v.getLsbD 15).xor (v.getLsbD 14)).xor ((v.getLsbD 12).xor (v.getLsbD 3)) then 1#16 else 0#16)

/-- The expected answer: challenge exclusive-or key, then the complement of that (R157). -/
def expectedAnswer (challenge key : BitVec 16) : BitVec 32 := (challenge ^^^ key) ++ (~~~(challenge ^^^ key))

/-! ### Windows (R158) -/

/-- How an elapsed time is judged against a window (R158). -/
inductive WindowJudgement where
  | early
  | inside
  | late
  deriving DecidableEq, Repr

/-- The judgement of an elapsed time in local time units against an open and a close in ms, both inside (R158). R168 has an answer or a
strict fetch that finds the timer restarted by an expiry of the same moment judged early, while by R158 an elapsed time of 0 is
inside a window that opens at 0: with an open setting of 0 the model judges by R158 (DESIGN CHOICE, assumption 26). -/
def judgeWindow (opens closes t : Nat) : WindowJudgement :=
  if t < opens * Config.unitsPerMs then .early
  else if t ≤ closes * Config.unitsPerMs then .inside
  else .late

/-- Local time since the start of the window timer; 0 when stopped (R158, R165). -/
def SupUnit.windowElapsed (u : SupUnit) (now : Time) : Nat :=
  match u.windowTimer with
  | some start => elapsed start now
  | none => 0

/-! ### Standing and eligibility (R162) -/

/-- Eligibility judged against the stored thresholds (R162). -/
def SupUnit.judge (u : SupUnit) : SupUnit :=
  { u with eligible :=
      if u.eligible then !decide (u.standing < u.settings.low) else decide (u.settings.high ≤ u.standing) }

/-- A good step (R162). -/
def SupUnit.stepGood (u : SupUnit) : SupUnit :=
  ({ u with standing := min 15 (u.standing + u.settings.goodStep) }).judge

/-- A bad step; one that leaves standing at 0 sets ZERO_REACHED (R162). -/
def SupUnit.stepBad (u : SupUnit) : SupUnit :=
  let w := ({ u with standing := u.standing - u.settings.badStep }).judge
  if w.standing = 0 then w.setFlag .zeroReached else w

/-- What an event does to a supervision unit: the unit after the event's own effects, whether it set a flag, and whether it calls
for a controller reset event (R161 to R164). -/
structure SupEffect where
  unit : SupUnit
  flagged : Bool
  reset : Bool
  deriving DecidableEq, Repr

/-- An event without a flag. -/
def SupUnit.quiet (u : SupUnit) : SupEffect := ⟨u, false, false⟩

/-- A flag is set and a bad step is taken; at standing 0 with reset on zero a controller reset event follows (R162). -/
def SupUnit.penalty (u : SupUnit) (f : SupFlag) : SupEffect :=
  let w := (u.setFlag f).stepBad
  ⟨w, true, decide (w.standing = 0) && w.settings.resetOnZero⟩

/-- The event goes on with the rest of its rule. -/
def SupEffect.andThen (e : SupEffect) (f : SupUnit → SupUnit) : SupEffect := { e with unit := f e.unit }

/-! ### Events of a unit -/

/-- The state is entered and the window timer starts (R159, R160). -/
def SupUnit.await (u : SupUnit) (state : SupState) (now : Time) : SupUnit :=
  { u with state := state, windowTimer := some now }

/-- A fetch that finds the answer-correct mark set advances the register and clears the mark (R157, R159). -/
def SupUnit.refresh (u : SupUnit) : SupUnit :=
  if u.answerCorrect then { u with challenge := challengeAdvance u.challenge, answerCorrect := false } else u

/-- The judgement of a fetch in AWAIT_FETCH: outside strict mode every one takes a good step (R159). -/
def SupUnit.fetchJudgement (u : SupUnit) (now : Time) : WindowJudgement :=
  if u.settings.strict then judgeWindow u.settings.fetchOpen u.settings.fetchClose (u.windowElapsed now) else .inside

/-- Fetch Challenge (R159). -/
def SupUnit.fetch (u : SupUnit) (now : Time) : SupEffect :=
  match u.state with
  | .idle => (u.refresh.await .awaitAnswer now).quiet
  | .awaitFetch =>
    let stepped :=
      match u.fetchJudgement now with
      | .early => u.penalty .earlyFetch
      | .late => u.penalty .lateFetch
      | .inside => u.stepGood.quiet
    stepped.andThen fun w => w.refresh.await .awaitAnswer now
  | .awaitAnswer => (u.penalty .unexpected).andThen fun w => { w with windowTimer := some now }

/-- The step that an answer in AWAIT_ANSWER takes (R160). -/
def SupUnit.answerStep (u : SupUnit) (answer : BitVec 32) (now : Time) : SupEffect :=
  match judgeWindow u.settings.answerOpen u.settings.answerClose (u.windowElapsed now) with
  | .early => u.penalty .earlyAnswer
  | .late => u.penalty .lateAnswer
  | .inside =>
    if answer = expectedAnswer u.challenge u.settings.key then ({ u.stepGood with answerCorrect := true }).quiet
    else u.penalty .wrongAnswer

/-- Submit Answer once supervision has started (R160). -/
def SupUnit.answer (u : SupUnit) (answer : BitVec 32) (now : Time) : SupEffect :=
  match u.state with
  | .awaitAnswer => (u.answerStep answer now).andThen fun w => w.await .awaitFetch now
  | .awaitFetch => u.penalty .unexpected
  | .idle => u.quiet

/-- Whether settings differ from the stored ones in more than the two window-open values (R156 check 3). -/
def SupSettings.changesLocked (old new : SupSettings) : Bool :=
  decide ({ new with answerOpen := old.answerOpen, fetchOpen := old.fetchOpen } ≠ old)

/-- Configure Supervision with parameters in range (R156). -/
def SupUnit.configure (u : SupUnit) (set : SupSettings) (now : Time) : Except ResultCode SupEffect :=
  if u.state = .idle then .ok ({ u with settings := set }).judge.quiet
  else if u.settings.changesLocked set then .error .locked
  else if set = u.settings then .ok u.quiet
  else .ok (({ u with settings := set, windowTimer := some now }).penalty .windowChanged)

/-- Local time units from the start of the window timer to its expiry: close + grace (R158). -/
def SupUnit.windowUnits (u : SupUnit) : Nat :=
  match u.state with
  | .awaitAnswer => (u.settings.answerClose + u.settings.answerGrace) * Config.unitsPerMs
  | .awaitFetch => (u.settings.fetchClose + u.settings.fetchGrace) * Config.unitsPerMs
  | .idle => 0

/-- The window timer has reached close + grace (R158). -/
def SupUnit.windowExpired (u : SupUnit) (now : Time) : Bool :=
  decide (u.state ≠ .idle) && u.windowTimer.isSome && decide (u.windowUnits ≤ u.windowElapsed now)

/-- The flag of a timeout (R161). -/
def SupUnit.timeoutFlag (u : SupUnit) : SupFlag :=
  match u.state with
  | .awaitFetch => .fetchTimeout
  | .awaitAnswer | .idle => .answerTimeout

/-- An expiry of the window timer: a bad step, then a controller reset event with reset on timeout on, and a restart of the timer
otherwise (R161). -/
def SupUnit.timeout (u : SupUnit) (now : Time) : SupEffect :=
  let e := u.penalty u.timeoutFlag
  if u.settings.resetOnTimeout then { e with reset := true }
  else e.andThen fun w => { w with windowTimer := some now }

/-! ### Controller reset event, posts and authority (R163, R164, R167) -/

/-- The unit at a controller reset event: CRST low for 10 ms, the event counted, CONTROLLER_RESET set, SUP_IDLE with the window timer
stopped (R164). -/
def SupUnit.controllerReset (u : SupUnit) (now : Time) : SupUnit :=
  { u.setFlag .controllerReset with
    state := .idle, windowTimer := none, resetCount := min 15 (u.resetCount + 1), crstTimer := some now }

/-- Authority passes from port `p`: to the other port when it is eligible, to none otherwise; AUTHORITY is posted (R167). -/
def State.passAuthority (s : State) (p : Port) : State :=
  let next := if (s.supUnit p.other).eligible then some p.other else none
  (s.setHolder next).post (.port p) .authority (hiLo (holderCode s.holder) (holderCode next))

/-- The unit after an event, its controller reset event included (R164). -/
def SupEffect.final (e : SupEffect) (now : Time) : SupUnit := if e.reset then e.unit.controllerReset now else e.unit

/-- An event of the supervision unit of port `p` takes effect: the unit, one SUPERVISION post if flags were set or eligibility
changed, the loss of authority with the loss of eligibility, and the controller reset event at the port (R162 to R164, R167). -/
def State.supEvent (s : State) (p : Port) (e : SupEffect) : State :=
  let before := s.supUnit p
  let after := e.final s.localTime
  let stored := s.setSup p after
  let posted :=
    if e.flagged || before.eligible != after.eligible then stored.postTo p (.port p) .supervision after.postValue
    else stored
  let passed :=
    if before.eligible && !after.eligible && decide (s.holder = some p) then posted.passAuthority p else posted
  if e.reset then passed.controllerResetAtPort p else passed

/-! ### Commands of the supervision unit -/

/-- Fetch Challenge: the result holds the challenge as the fetch leaves it (R159). -/
def ruleFetchChallenge (p : Port) (ps : List Octet) (s : State) : State × List Octet :=
  match parseNone ps with
  | .error e => (s, refuse e)
  | .ok _ =>
    let e := (s.supUnit p).fetch s.localTime
    (s.supEvent p e, okData (be 2 e.unit.challenge.toNat))

def execFetchChallenge (p : Port) (s : State) : Result := .next (serve p 0x01 (ruleFetchChallenge p) s)

/-- Submit Answer (R160). -/
def ruleSubmitAnswer (p : Port) (ps : List Octet) (s : State) : State × List Octet :=
  match parseAnswer ps with
  | .error e => (s, refuse e)
  | .ok answer =>
    if (s.supUnit p).state = .idle then (s, refuse .notStarted)
    else (s.supEvent p ((s.supUnit p).answer answer s.localTime), okNone)

def execSubmitAnswer (p : Port) (s : State) : Result := .next (serve p 0x02 (ruleSubmitAnswer p) s)

/-- The twenty-two data octets of Read Supervision (R165). -/
def supervisionData (u : SupUnit) (now : Time) : List Octet :=
  let t := u.settings
  [octet (supCode u.state), octet u.standing, flagOctet u.eligible, octet u.resetCount] ++ be 2 u.flags.toNat
    ++ be 2 (u.windowElapsed now / Config.unitsPerMs)
    ++ [flagOctet u.answerCorrect, octet t.answerOpen, octet t.answerClose, octet t.answerGrace, octet t.fetchOpen,
        octet t.fetchClose, octet t.fetchGrace, flagOctet t.strict, flagOctet t.resetOnTimeout, flagOctet t.resetOnZero,
        octet t.goodStep, octet t.badStep, octet t.low, octet t.high]

/-- Read Supervision: the snapshot, then the flags clear (R165). -/
def ruleReadSupervision (p : Port) (ps : List Octet) (s : State) : State × List Octet :=
  match parseNone ps with
  | .error e => (s, refuse e)
  | .ok _ =>
    let u := s.supUnit p
    (s.setSup p { u with flags := 0 }, okData (supervisionData u s.localTime))

def execReadSupervision (p : Port) (s : State) : Result := .next (serve p 0x03 (ruleReadSupervision p) s)

/-- Configure Supervision: the checks of R156 in their order, then its effect. -/
def ruleConfigureSupervision (p : Port) (ps : List Octet) (s : State) : State × List Octet :=
  match parseSupervision ps with
  | .error e => (s, refuse e)
  | .ok set =>
    match (s.supUnit p).configure set s.localTime with
    | .error e => (s, refuse e)
    | .ok e => (s.supEvent p e, okNone)

def execConfigureSupervision (p : Port) (s : State) : Result := .next (serve p 0x04 (ruleConfigureSupervision p) s)

/-! ### Timers -/

/-- WINDOW_TIMER_EXPIRY (R161). -/
def execWindowTimerExpiry (p : Port) (s : State) : Result :=
  .next (if (s.supUnit p).windowExpired s.localTime then s.supEvent p ((s.supUnit p).timeout s.localTime) else s)

/-- CRST of a port is low while its CRST timer runs (R153, R164). -/
def State.crstLow (s : State) (p : Port) : Bool := (s.supUnit p).crstTimer.isSome

/-- The CRST timer has run for 10 ms (R164). -/
def SupUnit.crstExpired (u : SupUnit) (now : Time) : Bool :=
  match u.crstTimer with
  | some start => decide (Config.crstUnits ≤ elapsed start now)
  | none => false

/-- CRST_TIMER_EXPIRY: CRST returns high (R164). -/
def execCrstTimerExpiry (p : Port) (s : State) : Result :=
  .next (if (s.supUnit p).crstExpired s.localTime then s.setSup p { s.supUnit p with crstTimer := none } else s)

/-! ### Authority (R166, R167) -/

/-- Take Authority granted: `p` becomes the holder, and AUTHORITY is posted (R166, R167). -/
def State.grantAuthority (s : State) (p : Port) : State :=
  (s.setHolder (some p)).post (.port p) .authority (hiLo (holderCode s.holder) (holderCode (some p)))

/-- Take Authority (R166). -/
def ruleTakeAuthority (p : Port) (ps : List Octet) (s : State) : State × List Octet :=
  match parseNone ps with
  | .error e => (s, refuse e)
  | .ok _ =>
    if s.holder = some p then (s, okNone)
    else if !(s.supUnit p).eligible then (s, refuse .notEligible)
    else if s.holder = some p.other then (s, refuse .held)
    else (s.grantAuthority p, okNone)

def execTakeAuthority (p : Port) (s : State) : Result := .next (serve p 0x05 (ruleTakeAuthority p) s)

/-- Yield Authority (R167). -/
def ruleYieldAuthority (p : Port) (ps : List Octet) (s : State) : State × List Octet :=
  match parseNone ps with
  | .error e => (s, refuse e)
  | .ok _ => if s.holder = some p then (s.passAuthority p, okNone) else (s, refuse .wrongState)

def execYieldAuthority (p : Port) (s : State) : Result := .next (serve p 0x06 (ruleYieldAuthority p) s)

end Sys2Proof.Machine
end

