-- ==== Sys2Proof/Machine/Clock.lean ====
section
/-! DEFINITION. What the part does when no command waits: the internal steps that are due, and the passing of one unit of local time
(assumptions 1 and 4). -/

namespace Sys2Proof.Machine

/-! ### One unit of local time, 100 ns -/

/-- The clocks of a line advance by 100 ns: the receive side towards its next bit period (R22), the transmit side by the rate of the
frame in progress (R34, R100). -/
def Line.tick (l : Line) : Line :=
  { l with rxPhase := l.rxPhase + Config.bitPhasePerUnit, txPhase := l.txPhase + (1000000000 + l.txRate).toNat }

/-- The MAC of a path sends for another unit of local time (R60). -/
def PathUnit.tick (u : PathUnit) : PathUnit := { u with macBusyNs := u.macBusyNs - Config.unitNs }

/-- Local time advances by one unit, wrapping (00_scope 5.3). -/
def State.tick (s : State) : State :=
  { s with
    localTime := s.localTime + 1
    circuits := s.circuits.map fun v => { v with line := v.line.tick }
    paths := ⟨s.paths.x.tick, s.paths.y.tick⟩ }

/-! ### Due internal steps -/

def dueIf (due : Bool) (i : Instr) : List Instr := if due then [i] else []

/-- What the exchange between a port and the owners makes due: the frame that waits with an owner, or a result frame on its way
(R149, R150, R152). -/
def State.transitDue (s : State) (p : Port) : List Instr :=
  match s.transit.get p with
  | some (.atOwner f) => (commandOf f.code p).toList
  | some (.returning _) =>
    dueIf ((s.port p).orphan || (decide ((s.port p).phase = .executing) && (s.port p).inFlight.isSome)) (.resultArrival p)
  | none => []

/-- What is due at a port and its supervision unit. -/
def State.portDue (s : State) (p : Port) : List Instr :=
  dueIf (s.port p).frameReady (.commandFrameComplete p) ++ s.transitDue p
    ++ dueIf ((s.supUnit p).windowExpired s.localTime) (.windowTimerExpiry p)
    ++ dueIf ((s.supUnit p).crstExpired s.localTime) (.crstTimerExpiry p)

/-- The row of a step of a line. -/
def LineStep.instr (c : CircuitId) : LineStep → Instr
  | .losSet => .losSet c
  | .aisSpanEnd => .aisSpanEnd c
  | .lossOfAlignment => .lossOfAlignment c
  | .search => .framerSearchOctet c
  | .verify => .framerVerifyTest c
  | .compare => .framerAlignedCompare c
  | .boundary => .receiveFrameBoundary c
  | .losClear => .losClear c

/-- What is due at a circuit: requests of the playout unit, timers, the steps and clocks of its line. -/
def State.circuitDue (s : State) (c : CircuitId) : List Instr :=
  let v := s.circuit c
  dueIf v.requests.acquisitionComplete (.acquisitionComplete c) ++ dueIf v.requests.underrun.isSome (.underrun c)
    ++ dueIf v.requests.overrun.isSome (.overrun c) ++ dueIf v.requests.drainComplete (.drainComplete c)
    ++ dueIf v.drainExpired (.drainLimitExpiry c) ++ dueIf (s.acqTimerDue c) (.acquisitionTimerExpiry c)
    ++ dueIf (s.probeTimerDue c) (.probeTimerExpiry c) ++ dueIf v.clockLossDue (.receiveClockLoss c)
    ++ dueIf v.crystalBitDue (.receiveBitPeriod c false) ++ (v.lineDue.map (LineStep.instr c)).toList
    ++ dueIf v.transmitDue (.transmitFrameBoundary c)

/-- All internal steps that are due now. -/
def State.due (s : State) : List Instr :=
  dueIf s.startUpDue .startUpEnd ++ s.portDue .cp0 ++ s.portDue .cp1 ++ allCircuits.flatMap s.circuitDue
    ++ dueIf (s.pathUnit .x).departureDue (.frameDeparture .x) ++ dueIf (s.pathUnit .y).departureDue (.frameDeparture .y)
    ++ dueIf s.windowDue.isSome .referenceWindowCompletion ++ dueIf s.absenceDue .absenceExpiry

/-- The internal step to take next with the state to take it from: none when none is due; the one that is due; and one of several,
which the spec leaves free (assumption 4). -/
def State.nextDue (s : State) : Option (Instr × State) :=
  match s.due with
  | [] => none
  | [i] => some (i, s)
  | i :: rest => some ((i :: rest).getD (Config.pickDue s.freeCount % (rest.length + 1)) i, s.bumpFree)

end Sys2Proof.Machine
end

