-- ==== Sys2Proof/Machine/Dispatch.lean ====
section
/-! DEFINITION. The dispatch: one arm per command, each one call of its meaning. -/

namespace Sys2Proof.Machine

def exec (i : Instr) (s : State) : Host.Outcome State Fault Refusal :=
  match i with
  | .deviceReset => Sys2Proof.Machine.execDeviceReset s
  | .startUpEnd => Sys2Proof.Machine.execStartUpEnd s
  | .transactionStart p => Sys2Proof.Machine.execTransactionStart p s
  | .statusOctetSent p => Sys2Proof.Machine.execStatusOctetSent p s
  | .resultOctetSent p => Sys2Proof.Machine.execResultOctetSent p s
  | .transactionEnd p => Sys2Proof.Machine.execTransactionEnd p s
  | .commandFrameComplete p => Sys2Proof.Machine.execCommandFrameComplete p s
  | .resultArrival p => Sys2Proof.Machine.execResultArrival p s
  | .fetchChallenge p => Sys2Proof.Machine.execFetchChallenge p s
  | .submitAnswer p => Sys2Proof.Machine.execSubmitAnswer p s
  | .readSupervision p => Sys2Proof.Machine.execReadSupervision p s
  | .configureSupervision p => Sys2Proof.Machine.execConfigureSupervision p s
  | .windowTimerExpiry p => Sys2Proof.Machine.execWindowTimerExpiry p s
  | .crstTimerExpiry p => Sys2Proof.Machine.execCrstTimerExpiry p s
  | .takeAuthority p => Sys2Proof.Machine.execTakeAuthority p s
  | .yieldAuthority p => Sys2Proof.Machine.execYieldAuthority p s
  | .collectAttention p => Sys2Proof.Machine.execCollectAttention p s
  | .openCircuit p => Sys2Proof.Machine.execOpenCircuit p s
  | .closeCircuit p => Sys2Proof.Machine.execCloseCircuit p s
  | .holdCircuit p => Sys2Proof.Machine.execHoldCircuit p s
  | .resumeCircuit p => Sys2Proof.Machine.execResumeCircuit p s
  | .readCircuit p => Sys2Proof.Machine.execReadCircuit p s
  | .setTiming p => Sys2Proof.Machine.execSetTiming p s
  | .setPaths p => Sys2Proof.Machine.execSetPaths p s
  | .setProbing p => Sys2Proof.Machine.execSetProbing p s
  | .setPlayout p => Sys2Proof.Machine.execSetPlayout p s
  | .readPlayout p => Sys2Proof.Machine.execReadPlayout p s
  | .readTiming p => Sys2Proof.Machine.execReadTiming p s
  | .readPaths p => Sys2Proof.Machine.execReadPaths p s
  | .readDelay p => Sys2Proof.Machine.execReadDelay p s
  | .readCounters p => Sys2Proof.Machine.execReadCounters p s
  | .configureReference p => Sys2Proof.Machine.execConfigureReference p s
  | .readReference p => Sys2Proof.Machine.execReadReference p s
  | .configurePath p => Sys2Proof.Machine.execConfigurePath p s
  | .acquisitionComplete c => Sys2Proof.Machine.execAcquisitionComplete c s
  | .underrun c => Sys2Proof.Machine.execUnderrun c s
  | .overrun c => Sys2Proof.Machine.execOverrun c s
  | .drainComplete c => Sys2Proof.Machine.execDrainComplete c s
  | .drainLimitExpiry c => Sys2Proof.Machine.execDrainLimitExpiry c s
  | .acquisitionTimerExpiry c => Sys2Proof.Machine.execAcquisitionTimerExpiry c s
  | .receiveFrameBoundary c => Sys2Proof.Machine.execReceiveFrameBoundary c s
  | .receiveClockLoss c => Sys2Proof.Machine.execReceiveClockLoss c s
  | .losSet c => Sys2Proof.Machine.execLosSet c s
  | .losClear c => Sys2Proof.Machine.execLosClear c s
  | .aisSpanEnd c => Sys2Proof.Machine.execAisSpanEnd c s
  | .framerSearchOctet c => Sys2Proof.Machine.execFramerSearchOctet c s
  | .framerVerifyTest c => Sys2Proof.Machine.execFramerVerifyTest c s
  | .framerAlignedCompare c => Sys2Proof.Machine.execFramerAlignedCompare c s
  | .lossOfAlignment c => Sys2Proof.Machine.execLossOfAlignment c s
  | .transmitFrameBoundary c => Sys2Proof.Machine.execTransmitFrameBoundary c s
  | .linkEvent path up => Sys2Proof.Machine.execLinkEvent path up s
  | .frameDeparture path => Sys2Proof.Machine.execFrameDeparture path s
  | .frameReceived path octets => Sys2Proof.Machine.execFrameReceived path octets s
  | .probeTimerExpiry c => Sys2Proof.Machine.execProbeTimerExpiry c s
  | .referenceWindowStart => Sys2Proof.Machine.execReferenceWindowStart s
  | .referenceWindowCompletion => Sys2Proof.Machine.execReferenceWindowCompletion s
  | .absenceExpiry => Sys2Proof.Machine.execAbsenceExpiry s
  | .resetNRelease => Sys2Proof.Machine.execResetNRelease s
  | .writtenOctet p o => Sys2Proof.Machine.execWrittenOctet p o s
  | .receiveBitPeriod c mark => Sys2Proof.Machine.execReceiveBitPeriod c mark s
  | .receiveClockReturn c mark => Sys2Proof.Machine.execReceiveClockReturn c mark s
  | .refEdge => Sys2Proof.Machine.execRefEdge s

end Sys2Proof.Machine
end

