-- ==== Sys2Proof/Machine/Frames.lean ====
section
/-! DEFINITION. The controller's side of the commands: the parameter octets that name given operands, field by field as each command's
rule lists them, and the ranges of the settings those fields hold. -/

namespace Sys2Proof.Machine

/-! ### Ranges of the settings (R2, R156) -/

/-- Ranges of the playout settings (R96). -/
def PlayoutSettings.inRange (t : PlayoutSettings) : Bool := within 1 255 t.targetDepth

/-- Ranges of the timing settings as stored (R115). -/
def TimingSettings.inRange (t : TimingSettings) : Bool :=
  within 1000 100000 t.lim && within 0 255 t.gp && within 0 255 t.gi && within 4 8 t.m

/-- Ranges of the path settings (R69). The receive set is never empty. -/
def PathSettings.inRange (t : PathSettings) : Bool :=
  (t.receiveSet.x || t.receiveSet.y) && within 1 7 t.goodStep && within 1 7 t.badStep && within 1 14 t.low
    && within (t.low + 1) 15 t.high

/-- Ranges of the probing settings (R141). -/
def ProbeSettings.inRange (t : ProbeSettings) : Bool :=
  within 0 255 t.interval && within 1 10000000 t.delayLimit && within 1 10000000 t.asymmetryLimit

/-- Ranges of the supervision settings (R156). -/
def SupSettings.inRange (t : SupSettings) : Bool :=
  within 0 255 t.answerOpen && within (t.answerOpen + 1) 255 t.answerClose && within 0 255 t.answerGrace
    && within 0 255 t.fetchOpen && within (t.fetchOpen + 1) 255 t.fetchClose && within 0 255 t.fetchGrace
    && within 1 7 t.goodStep && within 1 7 t.badStep && within 1 14 t.low && within (t.low + 1) 15 t.high

/-! ### Parameter octets -/

/-- A circuit index. -/
def circuitParams (c : CircuitId) : List Octet := [octet c.val]

/-- The mode octet of Open Circuit (R12). -/
def modeOctet : LineMode → Octet
  | .unstructured => 0x00
  | .structured => 0x01

/-- Open Circuit (R12). -/
def openParams (c : CircuitId) (l : Layout) : List Octet :=
  [octet c.val, modeOctet l.mode, octet l.fpp, octet l.k] ++ be 2 l.localTag ++ be 2 l.remoteTag
    ++ [octet l.acqLimit, octet l.lossThreshold, octet l.slots.length] ++ l.slots.map octet

/-- Close Circuit (R15). -/
def closeParams (c : CircuitId) (limit : Nat) : List Octet := [octet c.val, octet limit]

/-- Set Timing (R115). -/
def setTimingParams (c : CircuitId) (t : TimingSettings) : List Octet :=
  [octet c.val, flagOctet (decide (t.mode = .station))] ++ be 4 t.lim ++ [octet t.gp, octet t.gi, octet t.m]

/-- Set Paths (R69). -/
def setPathsParams (c : CircuitId) (t : PathSettings) : List Octet :=
  [octet c.val, flagOctet (decide (t.mode = .single)), octet (pathCode t.preferred), octet (pathBits t.receiveSet)]
    ++ be 6 t.destination.x.toNat ++ be 6 t.destination.y.toNat
    ++ [octet t.goodStep, octet t.badStep, octet t.low, octet t.high]

/-- Set Probing (R141). -/
def setProbingParams (c : CircuitId) (t : ProbeSettings) : List Octet :=
  [octet c.val, octet t.interval] ++ be 4 t.delayLimit ++ be 4 t.asymmetryLimit

/-- Set Playout (R96). -/
def setPlayoutParams (c : CircuitId) (t : PlayoutSettings) : List Octet :=
  [octet c.val, octet t.targetDepth, flagOctet (decide (t.concealment = .fill)), t.fillOctet, flagOctet t.suppress]

/-- The octet that names a circuit or a path (R71, R174). -/
def objectOctet : ReadObject → Octet
  | .circuit c => octet c.val
  | .path π => octet (0x10 + pathCode π)

/-- Read Counters (R174). -/
def readCountersParams (o : ReadObject) (π : Path) : List Octet := [objectOctet o, octet (pathCode π)]

/-- Configure Reference (R127). -/
def configureReferenceParams (tolerance q : Nat) (word : BitVec 7) : List Octet :=
  [octet tolerance, octet q, word.setWidth 8]

/-- Configure Path (R61). -/
def configurePathParams (π : Path) (source : MacAddr) (typeCode : BitVec 16) : List Octet :=
  [octet (pathCode π)] ++ be 6 source.toNat ++ be 2 typeCode.toNat

/-- An individual address: bit 0 of its first octet is 0 (R48, R61). -/
def individual (a : MacAddr) : Bool := !a.getLsbD 40

/-- Submit Answer (R160). -/
def answerParams (answer : BitVec 32) : List Octet := be 4 answer.toNat

/-- Configure Supervision (R156). -/
def supervisionParams (t : SupSettings) : List Octet :=
  [octet t.answerOpen, octet t.answerClose, octet t.answerGrace, octet t.fetchOpen, octet t.fetchClose, octet t.fetchGrace,
   flagOctet t.strict, flagOctet t.resetOnTimeout, flagOctet t.resetOnZero, octet t.goodStep, octet t.badStep, octet t.low,
   octet t.high] ++ be 2 t.key.toNat

/-! ### Reading parameters exactly -/

/-- A parser accepts exactly the octets that spell valid operands, refuses a wrong length with BAD_LENGTH, and everything else with
BAD_PARAMETER (R54, section 9.5). -/
def ReadsExactly {α : Type} (parse : List Octet → Except ResultCode α) (lengthOk : List Octet → Prop) (valid : α → Prop)
    (encode : α → List Octet) : Prop :=
  (∀ (ps : List Octet) (x : α), parse ps = .ok x ↔ (valid x ∧ ps = encode x))
    ∧ (∀ ps : List Octet, parse ps = .error .badLength ↔ ¬lengthOk ps)
    ∧ ∀ ps : List Octet, parse ps = .error .badParameter ↔ (lengthOk ps ∧ ∀ x : α, valid x → ps ≠ encode x)

/-- The length that Open Circuit's own slot count announces, 42 at most (R12). -/
def openLengthOk (ps : List Octet) : Prop :=
  ps.length ≤ 42 ∧ ∃ count : Octet, ps[10]? = some count ∧ ps.length = 11 + count.toNat

/-- Timing settings as Set Timing carries them, before Lim is clamped (R115). -/
def TimingSettings.carried (t : TimingSettings) : Bool :=
  decide (t.lim < 4294967296) && within 0 255 t.gp && within 0 255 t.gi && within 4 8 t.m

/-- Read Counters names a circuit with either path, or a path with 00h in its second octet (R174). -/
def counterObject : ReadObject → Path → Bool
  | .circuit _, _ => true
  | .path _, π => decide (π = .x)

end Sys2Proof.Machine
end

