-- ==== Sys2Proof/Safety.lean ====
section
/-! DEFINITION. What holds of a sound state of the part, in the terms the statements use: the properties that the spec says hold "always" or
"at any moment", one predicate per block, and the words for what an event posts and leaves alone. -/

namespace Sys2Proof.Machine

/-! ### What an event posts -/

/-- An event that an owner posts: source, kind and latest value (R170). -/
structure Event where
  source : Source
  kind : AttnKind
  value : BitVec 16
  deriving DecidableEq, Repr

/-- A queue after events posted to it in turn. -/
def AttnUnit.takeAll (u : AttnUnit) (now : Time) (events : List Event) : AttnUnit :=
  events.foldl (fun w e => w.take e.source e.kind e.value now) u

/-- Both queues after events posted to both of them in turn (R170). -/
def State.attnAfter (s : State) (events : List Event) : PerPort AttnUnit :=
  ⟨s.attn.cp0.takeAll s.localTime events, s.attn.cp1.takeAll s.localTime events⟩

/-- Every circuit but `c` is as it was. -/
def State.keepsOtherCircuits (s : State) (c : CircuitId) (t : State) : Prop :=
  ∀ d : CircuitId, d ≠ c → t.circuit d = s.circuit d

/-- The frame of port `p` that waits with its owner has this code and these parameters (R149). -/
abbrev State.frameAtOwner (s : State) (p : Port) (code : Octet) (params : List Octet) : Prop :=
  s.transit.get p = some (.atOwner ⟨code, params⟩)

/-- The result is on its way back to port `p`, and the other port's exchange is as it was (R149). -/
def State.answers (s : State) (p : Port) (result : List Octet) : State := s.setTransit p (some (.returning result))

/-- The owner of a command refuses a frame of it with a wrong length with BAD_LENGTH, and one that spells no valid operands with
BAD_PARAMETER; nothing else changes (R54, section 9.5). -/
def RefusesBadFrames {α : Type} (command : Port → Instr) (code : Octet) (lengthOk : List Octet → Prop) (valid : α → Prop)
    (encode : α → List Octet) : Prop :=
  ∀ (p : Port) (ps : List Octet) (s : State), s.frameAtOwner p code ps →
    (¬lengthOk ps → exec (command p) s = .next (s.answers p [0x02, 0x00]))
      ∧ (lengthOk ps → (∀ x : α, valid x → ps ≠ encode x) → exec (command p) s = .next (s.answers p [0x03, 0x00]))

/-! ### What is due -/

/-- What the rule of each step of a line asks for. The framer works for an open STRUCTURED circuit alone (R25 to R27, R29, R30,
R31). -/
def LineStep.asked (v : Circuit) (step : LineStep) : Prop :=
  let l := v.line
  let works : Prop := v.state ≠ .closed ∧ v.layoutD.mode = .structured
  match step with
  | .losSet => l.los = false ∧ 2048 ≤ l.spaceRun
  | .aisSpanEnd => 512 ≤ l.spanBits
  | .lossOfAlignment => works ∧ l.framer = .aligned ∧ 3 ≤ l.erroredRun
  | .search => works ∧ l.framer = .search ∧ l.searchPos + 8 ≤ l.rxCount
  | .verify => works ∧ l.framer = .verify ∧ l.candidate + (if l.firstTestPassed then 520 else 264) ≤ l.rxCount
  | .compare => works ∧ l.framer = .aligned ∧ l.frameOdd = false ∧ l.compared = false ∧ 8 ≤ l.period.length
  | .boundary => 256 ≤ l.period.length
  | .losClear => l.los = true ∧ 8 ≤ l.markPeriods

/-- The order in which a line takes its steps (assumption 6). -/
def lineOrder : List LineStep := [.losSet, .aisSpanEnd, .lossOfAlignment, .search, .verify, .compare, .boundary, .losClear]

/-- A step of a line is asked for, and none that comes before it is (assumption 6). -/
def LineStep.isNext (v : Circuit) (step : LineStep) : Prop :=
  step.asked v ∧ ∀ other : LineStep, lineOrder.idxOf other < lineOrder.idxOf step → ¬other.asked v

/-- This much local time, in units of 100 ns, has passed since a timer's start; a stopped timer has none (00_scope 5.3). -/
def State.hasRun (s : State) (timer : Option Time) (units : Nat) : Prop :=
  ∃ start : Time, timer = some start ∧ units ≤ (s.localTime - start).toNat

/-- When an internal step is due by its rule: a command frame complete at its port or with its owner, a result on its way, a timer that
has run out, a request that waits, a bit period or frame that has ended, an entry that the MAC can take, a window that is over. -/
def DueNow (s : State) (i : Instr) : Prop :=
  (∃ (p : Port) (f : CommandFrame), s.transit.get p = some (.atOwner f) ∧ commandOf f.code p = some i)
    ∨ match i with
      -- R144, R147, R150, R152
      | .startUpEnd => s.hasRun s.startUpFrom 10000
      | .commandFrameComplete p =>
        (s.port p).phase = .command
          ∧ ∃ (code length : Octet) (rest : List Octet),
              (s.port p).partialFrame = code :: length :: rest ∧ length.toNat ≤ rest.length
      | .resultArrival p =>
        (∃ r : List Octet, s.transit.get p = some (.returning r))
          ∧ ((s.port p).orphan = true ∨ ((s.port p).phase = .executing ∧ (s.port p).inFlight.isSome = true))
      -- R161, R164
      | .windowTimerExpiry p =>
        let u := s.supUnit p
        (u.state = .awaitAnswer ∧ s.hasRun u.windowTimer ((u.settings.answerClose + u.settings.answerGrace) * 10000))
          ∨ (u.state = .awaitFetch ∧ s.hasRun u.windowTimer ((u.settings.fetchClose + u.settings.fetchGrace) * 10000))
      | .crstTimerExpiry p => s.hasRun (s.supUnit p).crstTimer 100000
      -- R6, R16, R81, R91, R93 (assumption 10), R131
      | .acquisitionComplete c => (s.circuit c).requests.acquisitionComplete = true
      | .underrun c => (s.circuit c).requests.underrun ≠ none
      | .overrun c => (s.circuit c).requests.overrun ≠ none
      | .drainComplete c => (s.circuit c).requests.drainComplete = true
      | .drainLimitExpiry c => (s.circuit c).state = .closing ∧ (s.circuit c).drainRemaining = 0
      | .acquisitionTimerExpiry c =>
        (s.circuit c).state = .acquiring ∧ (s.circuit c).requests.acquisitionComplete = false
          ∧ s.hasRun (s.circuit c).cursor.acqTimer ((s.circuit c).layoutD.acqLimit * 100000)
      | .probeTimerExpiry c =>
        (s.circuit c).state ≠ .closed ∧ (s.circuit c).probeSet.interval ≠ 0
          ∧ s.hasRun (s.circuit c).probing.timer ((s.circuit c).probeSet.interval * 100000)
      -- R22, R25 to R28, R30, R31, R34
      | .receiveClockLoss c => (s.circuit c).line.crystal = false ∧ 20000 ≤ (s.circuit c).line.rxPhase
      | .receiveBitPeriod c mark => mark = false ∧ (s.circuit c).line.crystal = true ∧ 10000 ≤ (s.circuit c).line.rxPhase
      | .losSet c => LineStep.losSet.isNext (s.circuit c)
      | .aisSpanEnd c => LineStep.aisSpanEnd.isNext (s.circuit c)
      | .lossOfAlignment c => LineStep.lossOfAlignment.isNext (s.circuit c)
      | .framerSearchOctet c => LineStep.search.isNext (s.circuit c)
      | .framerVerifyTest c => LineStep.verify.isNext (s.circuit c)
      | .framerAlignedCompare c => LineStep.compare.isNext (s.circuit c)
      | .receiveFrameBoundary c => LineStep.boundary.isNext (s.circuit c)
      | .losClear c => LineStep.losClear.isNext (s.circuit c)
      | .transmitFrameBoundary c => 1250000000000 ≤ (s.circuit c).line.txPhase
      -- R60 (assumption 8)
      | .frameDeparture π => (s.pathUnit π).linkUp = true ∧ (s.pathUnit π).macBusyNs < 100 ∧ (s.pathUnit π).queue ≠ []
      -- R121, R123
      | .referenceWindowCompletion => s.hasRun (s.ref.window.map RefWindow.start) 10000000
      | .absenceExpiry => s.hasRun s.ref.absenceTimer 100
      | _ => False

/-! ### The circuit table and the buffer pool -/

/-- The free count plus the blocks held by all sixteen circuits is 2048, and a CLOSED circuit holds none (R10). -/
def PoolSound (s : State) : Prop :=
  s.freeBlocks + (allCircuits.map fun c => (s.circuit c).blocksHeld).sum = 2048
    ∧ ∀ c : CircuitId, (s.circuit c).state = .closed → (s.circuit c).blocksHeld = 0

/-- Every stored layout is within the ranges of R1, every circuit outside CLOSED has one, and no two circuits outside CLOSED have the
same remote tag (R1, R13). -/
def LayoutsSound (s : State) : Prop :=
  (∀ (c : CircuitId) (l : Layout), (s.circuit c).layout = some l → l.wellFormed = true)
    ∧ (∀ c : CircuitId, (s.circuit c).state ≠ .closed → (s.circuit c).layout.isSome = true)
    ∧ ∀ c d : CircuitId, (s.circuit c).state ≠ .closed → (s.circuit d).state ≠ .closed →
        (s.circuit c).layoutD.remoteTag = (s.circuit d).layoutD.remoteTag → c = d

/-! ### Attention -/

/-- A queue holds at most 48 records, no two with the same source and kind, each with a count in 1..255 (R169, section 3.7). -/
def AttentionSound (s : State) : Prop :=
  ∀ p : Port,
    (s.attnUnit p).queue.length ≤ 48
      ∧ (s.attnUnit p).queue.Pairwise (fun a b => ¬(a.source = b.source ∧ a.kind = b.kind))
      ∧ ∀ r ∈ (s.attnUnit p).queue, 1 ≤ r.count ∧ r.count ≤ 255

/-! ### Supervision and authority -/

/-- The holder of authority is eligible (R166, R167). -/
def AuthoritySound (s : State) : Prop := ∀ p : Port, s.holder = some p → (s.supUnit p).eligible = true

/-- Standing and reset event count within 0..15 (R162, R164), settings in range (R156), a challenge other than 0000h (R157), flags
within bits 0..10 (section 10.1), the window timer running exactly outside SUP_IDLE (R158), and the answer-correct mark clear in
AWAIT_ANSWER (R159). -/
def SupervisionSound (s : State) : Prop :=
  ∀ p : Port,
    let u := s.supUnit p
    u.standing ≤ 15 ∧ u.resetCount ≤ 15 ∧ u.settings.inRange = true ∧ u.challenge ≠ 0 ∧ u.flags &&& 0xF800#16 = 0
      ∧ (u.windowTimer = none ↔ u.state = .idle) ∧ (u.state = .awaitAnswer → u.answerCorrect = false)

/-! ### Ports -/

/-- A port holds a result exactly in RESULT; in EXECUTING it has a command in flight or a waiting frame, and never both; a waiting frame
stands behind an orphan, and a command in flight stands alone; and exactly then one command is with the owners (R147, R150 to
R152). -/
def ExchangeSound (s : State) : Prop :=
  ∀ p : Port,
    let u := s.port p
    (u.result.isSome = true ↔ u.phase = .result)
      ∧ (u.phase = .executing ↔ (u.inFlight.isSome = true ∨ u.waiting.isSome = true))
      ∧ (u.waiting.isSome = true → u.orphan = true)
      ∧ (u.inFlight.isSome = true → u.orphan = false)
      ∧ ((s.transit.get p).isSome = true ↔ (u.inFlight.isSome = true ∨ u.orphan = true))

/-! ### Paths, health, probing and timing -/

/-- A transmit queue holds at most 64 entries, and none while the link is DOWN (R58, R59). -/
def QueuesSound (s : State) : Prop :=
  ∀ π : Path, (s.pathUnit π).queue.length ≤ 64 ∧ ((s.pathUnit π).linkUp = false → (s.pathUnit π).queue = [])

/-- Health counts stay within 0..15 and path settings within their ranges (R66, R69). -/
def HealthSound (s : State) : Prop :=
  ∀ (c : CircuitId) (π : Path), (s.circuit c).health.count.get π ≤ 15 ∧ (s.circuit c).pathSet.inRange = true

/-- An outstanding list holds at most 4 entries with distinct probe numbers, and none for a CLOSED circuit; a postponed count stays
within 0..8; round trips stay within 0..10,000,000 (R130, R132, R134, R138). -/
def ProbesSound (s : State) : Prop :=
  ∀ (c : CircuitId) (π : Path),
    let b := (s.circuit c).probing
    (b.outstanding.get π).length ≤ 4 ∧ ((b.outstanding.get π).map Outstanding.number).Nodup
      ∧ ((s.circuit c).state = .closed → b.outstanding.get π = [])
      ∧ b.postponed.get π ≤ 8 ∧ (b.record.get π).lastRoundTrip ≤ 10000000 ∧ (b.record.get π).sampleCount ≤ 65535
      ∧ (∀ v : Nat, (b.record.get π).smoothed = some v → v ≤ 10000000)
      ∧ ∀ (p : Port) (m : Nat), ((b.record.get π).minimum.get p) = some m → m ≤ 10000000

/-- Timing settings within their ranges, and |I| ≤ Lim and |C| ≤ Lim for every circuit (R101, R115). -/
def TimingSound (s : State) : Prop :=
  ∀ c : CircuitId,
    let v := s.circuit c
    v.timingSet.inRange = true ∧ v.timing.i.natAbs ≤ v.timingSet.lim ∧ v.timing.c.natAbs ≤ v.timingSet.lim

/-! ### The tributary lines -/

/-- The framer's place in the bits received (section 2.3). In SEARCH the history begins at the search position, in VERIFY at the candidate,
with the candidate's octet whole and the first test's octet once that has passed; and nowhere else is there a history or a passed test. The framer
is idle in SEARCH while CLOSED, and not required exactly in an open UNSTRUCTURED circuit (R25 to R29). -/
def FramerPlaced (v : Circuit) : Prop :=
  let l := v.line
  (v.state = .closed → l.framer = .search ∧ l.firstTestPassed = false ∧ l.history = [])
    ∧ (v.state ≠ .closed →
        (l.framer = .notRequired ↔ v.layoutD.mode = .unstructured)
          ∧ (l.framer = .search → l.firstTestPassed = false ∧ l.searchPos + l.history.length = l.rxCount)
          ∧ (l.framer = .verify →
              l.candidate + l.history.length = l.rxCount ∧ (if l.firstTestPassed then 264 else 8) ≤ l.history.length)
          ∧ (l.framer = .aligned ∨ l.framer = .notRequired → l.firstTestPassed = false ∧ l.history = []))

/-- At every line the framer keeps its place; the history and the frame period in progress are both the bits received last, so that one
begins the other; the period has no more bits than were received and a span no more spaces than bits; and the space run is counted only
while LOS is clear, the mark periods only while it is present (R21, R30, R31); that a count which is not kept is 0 is the model's choice
(assumption 29). -/
def LinesSound (s : State) : Prop :=
  ∀ c : CircuitId,
    let v := s.circuit c
    let l := v.line
    FramerPlaced v ∧ (l.history <+: l.period ∨ l.period <+: l.history) ∧ l.period.length ≤ l.rxCount
      ∧ l.spanSpaces ≤ l.spanBits ∧ (l.los = true → l.spaceRun = 0) ∧ (l.los = false → l.markPeriods = 0)

/-! ### The playout ring -/

/-- A ring as R74 to R77 describe it: as many slots as its capacity; every non-EMPTY slot stands at its number's place and within the
capacity from head; the filled count counts them; hi is the furthest of them; the cursor's counts stay in their ranges. -/
def RingSound (v : Circuit) (l : Layout) : Prop :=
  v.ring.length = l.capacity
    ∧ v.cursor.filledCount = v.ring.countP (fun slot => slot.kind != .empty)
    ∧ (∀ (i : Nat) (slot : RingSlot), v.ring[i]? = some slot → slot.kind ≠ .empty →
        slotIndex l slot.seq = i
          ∧ ∃ h n : Seq, v.cursor.head = some h ∧ v.cursor.hi = some n ∧ seqOffset h slot.seq ≤ seqOffset h n)
    ∧ (∀ n : Seq, v.cursor.hi = some n →
        ∃ h : Seq, v.cursor.head = some h ∧ seqOffset h n < l.capacity ∧ (v.slotAt n).seq = n ∧ (v.slotAt n).kind ≠ .empty)
    ∧ v.cursor.frameIndex < l.fpp ∧ v.cursor.earlyRun ≤ 8 ∧ v.cursor.missingRun ≤ 255

/-- Every circuit outside CLOSED has a layout in range and a sound ring, a RUNNING or CLOSING one has a head, and so has one whose acquisition
is complete; a CLOSED circuit has no ring (R9, R15, R74, R92). -/
def RingsSound (s : State) : Prop :=
  ∀ c : CircuitId,
    let v := s.circuit c
    (v.state = .closed → v.ring = [])
      ∧ (v.state ≠ .closed → ∃ l : Layout, v.layout = some l ∧ l.wellFormed = true ∧ RingSound v l)
      ∧ (v.state = .running ∨ v.state = .closing ∨ v.requests.acquisitionComplete = true → v.cursor.head.isSome = true)

end Sys2Proof.Machine
end

