-- ==== Sys2Proof/Certificates/Slice0/Obligations.lean ====
section
/-! DEFINITION. The statements for the provers. Where a statement says "by rule Rn" the words are the spec's; a clause that rests on a choice
of the model names its log entry. A command "answers" by putting its result frame on the way back to the port (R149). -/

open Sys2Proof Sys2Proof.Machine

/-! ### The queue of commands, time and reset -/

/-- A command at the front of the queue is run on the state with the queue's rest. -/
def Obligations.StepRunsFrontOfQueue : Prop :=
  ∀ (c : Instr) (rest : List Instr) (s : State), step { s with pending := c :: rest } = exec c { s with pending := rest }

/-- On an empty queue: with nothing due, 100 ns of local time pass; one step that is due is taken; of several, one is taken; and what is due is
due by its rule. That the part does this instead of idling is the model's choice (assumption 1), and so are the free order (assumption 4), the
order within a line (assumption 6), the instants of the clocks (assumption 8) and the request that holds the acquisition timer back
(assumption 10). -/
def Obligations.StepOnEmptyQueue : Prop :=
  ∀ s : State, s.pending = [] →
    (s.due = [] →
      ∃ t : State, step s = .next t ∧ t.localTime = s.localTime + 1
        ∧ (∀ c : CircuitId, t.circuit c =
            { s.circuit c with line := { (s.circuit c).line with
                rxPhase := (s.circuit c).line.rxPhase + 2048,
                txPhase := (s.circuit c).line.txPhase + (1000000000 + (s.circuit c).line.txRate).toNat } })
        ∧ (∀ π : Path, t.pathUnit π = { s.pathUnit π with macBusyNs := (s.pathUnit π).macBusyNs - 100 })
        ∧ t = { s with localTime := t.localTime, circuits := t.circuits, paths := t.paths })
      ∧ (∀ i : Instr, s.due = [i] → step s = exec i s)
      ∧ (1 < s.due.length → ∃ i : Instr, i ∈ s.due ∧ step s = exec i { s with freeCount := s.freeCount + 1 })
      ∧ (∀ i : Instr, i ∈ s.due ↔ DueNow s i)

/-- DEVICE_RESET gives every item the value its rule states, whatever the levels of LINKX and LINKY, which the link states are read from. The
count of free choices and the queue of commands are the model's own and stay (assumptions 3 and 4). That RESET_N is still asserted and no
release noted, with the ports in START-UP from here on, is the model's choice too (assumptions 7 and 21), and so are the values of the items for
which the spec has none: the clock phases and the clock in use, the positions, parity and marks of a framer that works on nothing, the frame count
of the drain, a packetizer that does not collect, no request waiting and a MAC with no frame (assumption 21). The edge count, 0 in table 7.1, is held
within a window only (assumption 30). -/
def Obligations.DeviceResetValues : Prop :=
  ∀ s : State, ∃ t : State,
    exec .deviceReset s = .next t
      ∧ t.localTime = 0 ∧ t.resetAsserted = true ∧ t.startUpFrom = none ∧ t.holder = none ∧ t.freeBlocks = 2048
      ∧ (∀ p : Port,
          (t.port p).phase = .startUp ∧ (t.port p).partialFrame = [] ∧ (t.port p).inFlight = none
            ∧ (t.port p).waiting = none ∧ (t.port p).orphan = false ∧ (t.port p).result = none
            ∧ (t.port p).readPos = 0 ∧ (t.port p).framing = false ∧ (t.port p).ignored = false
            ∧ (t.port p).transaction = none ∧ t.transit.get p = none
            ∧ (t.attnUnit p).queue = [] ∧ (t.attnUnit p).overflow = false)
      ∧ (∀ p : Port,
          (t.supUnit p).state = .idle ∧ (t.supUnit p).windowTimer = none ∧ (t.supUnit p).answerCorrect = false
            ∧ (t.supUnit p).standing = 5 ∧ (t.supUnit p).eligible = false ∧ (t.supUnit p).flags = 0
            ∧ (t.supUnit p).resetCount = 0 ∧ (t.supUnit p).crstTimer = none
            ∧ (t.supUnit p).settings = ⟨20, 100, 50, 20, 100, 50, false, false, true, 1, 2, 4, 10, 0⟩)
      ∧ t.sup.cp0.challenge = 0x1A2B ∧ t.sup.cp1.challenge = 0x3C4D
      ∧ (∀ c : CircuitId,
          let v := t.circuit c
          v.state = .closed ∧ v.layout = none ∧ v.holdBarrier = false ∧ v.blocksHeld = 0 ∧ v.drainRemaining = 0
            ∧ v.drainFrames = 0 ∧ v.requests = ⟨false, none, none, false⟩
            ∧ v.playoutSet = ⟨2, .repeatLast, 0xFF, false⟩ ∧ v.timingSet = ⟨.adaptive, 60000, 40, 8, 6⟩
            ∧ v.pathSet = ⟨.dual, .x, ⟨true, true⟩, ⟨0, 0⟩, 1, 2, 6, 12⟩ ∧ v.probeSet = ⟨0, 100000, 10000⟩
            ∧ v.packetizer = ⟨false, false, 0, []⟩
            ∧ v.ring = [] ∧ v.cursor.head = none ∧ v.cursor.frameIndex = 0 ∧ v.cursor.headTaken = false
            ∧ v.cursor.hi = none ∧ v.cursor.filledCount = 0 ∧ v.cursor.earlyRun = 0 ∧ v.cursor.missingRun = 0
            ∧ v.cursor.lastPlayed = none ∧ v.cursor.acqTimer = none ∧ v.cursor.lastR = none ∧ v.cursor.farL = none
            ∧ v.cursor.mergeSkew = 0 ∧ v.cursor.leadPath = none
            ∧ v.timing = ⟨0, 0, 0, 0, 0, 0, ⟨false, false⟩, ⟨false, false⟩⟩
            ∧ v.health = ⟨⟨12, 12⟩, ⟨false, false⟩, .x⟩
            ∧ v.probing.timer = none ∧ v.probing.number = 0 ∧ v.probing.asymmetryAlarm = false
            ∧ v.cpCounters = ⟨⟨0, 0, 0, 0, 0, 0, 0, 0, 0, 0⟩, ⟨0, 0, 0, 0, 0, 0, 0, 0, 0, 0⟩⟩
            ∧ v.counters = ⟨0, 0, 0⟩)
      ∧ (∀ (c : CircuitId) (π : Path),
          (t.circuit c).probing.outstanding.get π = [] ∧ (t.circuit c).probing.postponed.get π = 0
            ∧ (t.circuit c).probing.record.get π = ⟨0, ⟨none, none⟩, none, 0, false⟩)
      ∧ (∀ c : CircuitId,
          let l := (t.circuit c).line
          l.rxCount = 0 ∧ l.period = [] ∧ l.los = false ∧ l.spaceRun = 0 ∧ l.markPeriods = 0 ∧ l.ais = false
            ∧ l.spanBits = 0 ∧ l.spanSpaces = 0 ∧ l.prevLow = false ∧ l.framer = .search ∧ l.firstTestPassed = false
            ∧ l.history = [] ∧ l.erroredRun = 0
            ∧ l.txOdd = false ∧ l.txKind = .conditioning ∧ l.txOctets = List.replicate 32 0xFF ∧ l.txRate = 0
            ∧ l.crystal = false ∧ l.rxPhase = 0 ∧ l.txPhase = 0 ∧ l.candidate = 0 ∧ l.searchPos = 0
            ∧ l.frameOdd = false ∧ l.compared = false)
      ∧ (∀ π : Path,
          (t.pathUnit π).linkPin = (s.pathUnit π).linkPin ∧ (t.pathUnit π).linkUp = (s.pathUnit π).linkPin
            ∧ (t.pathUnit π).source = 0 ∧ (t.pathUnit π).typeCode = 0 ∧ (t.pathUnit π).queue = []
            ∧ (t.pathUnit π).macFrame = none ∧ (t.pathUnit π).macBusyNs = 0
            ∧ (t.pathUnit π).frameErrors = 0 ∧ (t.pathUnit π).unknownTag = 0 ∧ (t.pathUnit π).format = 0
            ∧ (t.pathUnit π).linkDownDrops = 0)
      ∧ t.ref = ⟨.absent, none, 0, 0, none, 0, false, none, 102, 102, 3, 3, 0x1B⟩
      ∧ t.freeCount = s.freeCount ∧ t.pending = s.pending

/-! ### Attention (chapter 11) -/

/-- How a queue takes a posted event (R170): it merges, is dropped with the marker set, or is appended; a post goes to both queues, and
SUPERVISION to one. -/
def Obligations.AttentionPostTaken : Prop :=
  (∀ (u : AttnUnit) (src : Source) (kind : AttnKind) (value : BitVec 16) (now : Time),
    ((∃ r ∈ u.queue, r.source = src ∧ r.kind = kind) →
        (u.take src kind value now).overflow = u.overflow
          ∧ (u.take src kind value now).queue.length = u.queue.length
          ∧ ∀ (i : Nat) (r : AttnRecord), u.queue[i]? = some r →
              (u.take src kind value now).queue[i]? =
                some (if r.source = src ∧ r.kind = kind then { r with count := min 255 (r.count + 1), latest := value }
                      else r))
      ∧ ((∀ r ∈ u.queue, ¬(r.source = src ∧ r.kind = kind)) →
          (48 ≤ u.queue.length → u.take src kind value now = { u with overflow := true })
            ∧ (u.queue.length < 48 → u.take src kind value now = { u with queue := u.queue ++ [⟨src, kind, 1, value, now⟩] })))
    ∧ ∀ (s : State) (src : Source) (kind : AttnKind) (value : BitVec 16),
        s.post src kind value = { s with attn := s.attnAfter [⟨src, kind, value⟩] }
          ∧ ∀ p : Port, s.postTo p src kind value =
              { s with attn := s.attn.set p ((s.attn.get p).takeAll s.localTime [⟨src, kind, value⟩]) }

/-- Collect Attention, with the source and kind codes of its records (R56, R171, section 3.7). -/
def Obligations.CollectAttentionReturns : Prop :=
  ∀ (p : Port) (params : List Octet) (s : State), s.frameAtOwner p 0x08 params →
    (params ≠ [] → exec (.collectAttention p) s = .next (s.answers p [0x02, 0x00]))
      ∧ (params = [] →
          let u := s.attnUnit p
          let n := min 8 u.queue.length
          exec (.collectAttention p) s =
            .next ((s.setAttn p ⟨u.queue.drop 8, false⟩).answers p
              ([0x00, octet (3 + 9 * n), octet n, octet (u.queue.length - n), flagOctet u.overflow]
                ++ (u.queue.take 8).flatMap fun r =>
                    [octet (sourceCode r.source), octet (kindCode r.kind), octet r.count,
                     octet (r.latest.toNat / 256), octet (r.latest.toNat % 256),
                     octet (r.firstTime.toNat / 16777216), octet (r.firstTime.toNat / 65536 % 256),
                     octet (r.firstTime.toNat / 256 % 256), octet (r.firstTime.toNat % 256)]))
            ∧ (AttentionSound s → ∀ r ∈ u.queue.take 8, ∀ (value : BitVec 16) (now : Time),
                (AttnUnit.take ⟨u.queue.drop 8, false⟩ r.source r.kind value now).queue =
                  u.queue.drop 8 ++ [⟨r.source, r.kind, 1, value, now⟩]))
      ∧ (∀ c : CircuitId, sourceCode (.circuit c) = c.val)
      ∧ [Source.path .x, .path .y, .reference, .port .cp0, .port .cp1].map sourceCode = [0x10, 0x11, 0x12, 0x13, 0x14]
      ∧ [AttnKind.circuitState, .acquireTimeout, .underrun, .overrun, .lineAlarm, .remoteFault, .pathHealth, .txPathChange,
          .delayLimit, .asymmetry, .loopSaturation, .referenceState, .authority, .supervision].map kindCode =
        [0x01, 0x02, 0x03, 0x04, 0x05, 0x06, 0x07, 0x08, 0x09, 0x0A, 0x0B, 0x0C, 0x0D, 0x0E]

/-! ### Control ports (chapter 9) -/

/-- TRANSACTION_START: the status octet is formed and the phase at start is fixed; while RESET_N is asserted no transaction is taken (R144,
R146). A frame that is complete by then has been handed on first (R147, assumption 6). -/
def Obligations.TransactionStartFixesContext : Prop :=
  ∀ (p : Port) (s : State),
    let s' := s.settlePort p
    let u := s'.port p
    (s'.resetAsserted = false → u.transaction = none →
        exec (.transactionStart p) s =
          .next (s'.setPort p { u with transaction := some ⟨none, u.phase, s'.statusOctet p, false, false, false⟩ }))
      ∧ (s'.resetAsserted = true → exec (.transactionStart p) s = .next s')

/-- The status octet, bit by bit (section 3.6, R55). -/
def Obligations.StatusOctetShows : Prop :=
  ∀ s : State,
    (∀ p : Port,
      let o := s.statusOctet p
      let u := s.port p
      (o.getLsbD 7 = true ↔ u.phase = .result)
        ∧ (o.getLsbD 6 = true ↔ (u.phase = .executing ∨ u.phase = .startUp))
        ∧ (o.getLsbD 5 = true ↔ (u.framing = true ∧ u.phase ≠ .startUp))
        ∧ (o.getLsbD 4 = true ↔ (u.ignored = true ∧ u.phase ≠ .startUp))
        ∧ (o.getLsbD 3 = true ↔ (s.attnUnit p).queue ≠ [])
        ∧ (o.getLsbD 3 = s.attnLow p)
        ∧ (o.getLsbD 2 = true ↔ (s.holder = some p ∧ u.phase ≠ .startUp))
        ∧ (o.getLsbD 1 = true ↔ ((s.supUnit p).eligible = true ∧ u.phase ≠ .startUp))
        ∧ (o.getLsbD 0 = true ↔ ((s.supUnit p).state ≠ .idle ∧ u.phase ≠ .startUp)))
      ∧ ¬((s.statusOctet .cp0).getLsbD 2 = true ∧ (s.statusOctet .cp1).getLsbD 2 = true)

/-- STATUS_OCTET_SENT clears the flags that the octet showed as 1, and no other; RESULT_OCTET_SENT consumes one octet of the pending result, and
with the last one the port enters COMMAND (R148, R150). CDO carries FFh outside a transaction and in reset, the status octet first, then
the pending result from the read position on in a transaction that began in RESULT, and 00h otherwise (R145, R146, R151). That a void
transaction still sends its status octet, which clears the flags it showed, and that CDO is FFh too while CSEL has stayed low since reset with
no transaction taken, is the model's choice (assumption 15). -/
def Obligations.OutputOctetsConsumed : Prop :=
  (∀ (p : Port) (s : State), (s.resetAsserted = true ∨ (s.port p).transaction = none) → s.cdoOctet p = 0xFF)
    ∧ ∀ (p : Port) (t : Transaction) (s : State), (s.port p).transaction = some t →
    let u := s.port p
    (s.resetAsserted = false →
        (t.statusSent = false → s.cdoOctet p = t.status)
          ∧ (t.statusSent = true → (t.phaseAtStart ≠ .result ∨ t.voided = true ∨ u.result = none) → s.cdoOctet p = 0x00)
          ∧ (t.statusSent = true → t.phaseAtStart = .result → t.voided = false → ∀ r : List Octet, u.result = some r →
              u.readPos < r.length → some (s.cdoOctet p) = r[u.readPos]?))
      ∧ (t.statusSent = false →
        exec (.statusOctetSent p) s =
          .next (s.setPort p { u with
            framing := if t.status.getLsbD 5 then false else u.framing,
            ignored := if t.status.getLsbD 4 then false else u.ignored,
            transaction := some { t with statusSent := true } }))
      ∧ (t.statusSent = true → t.phaseAtStart = .result → t.voided = false → ∀ r : List Octet, u.result = some r →
          (u.readPos + 1 < r.length →
              exec (.resultOctetSent p) s = .next (s.setPort p { u with readPos := u.readPos + 1 }))
            ∧ (u.readPos + 1 = r.length →
              exec (.resultOctetSent p) s =
                .next (s.setPort p { u with phase := .command, result := none, readPos := 0 })))

/-- WRITTEN_OCTET: the access octet fixes the access kind; after it, a read transaction looks at nothing, and a write transaction takes the octet
into the command frame, or discards it with IGNORED set, or without a flag, by the phase at start (R145 to R147, R151). -/
def Obligations.WrittenOctetTaken : Prop :=
  ∀ (p : Port) (o : Octet) (s : State) (t : Transaction),
    let s' := s.settlePort p
    let u := s'.port p
    u.transaction = some t →
      (t.access = none →
          exec (.writtenOctet p o) s =
            .next (s'.setPort p { u with transaction := some { t with access := some (if o = 0x01 then .write else .read) } }))
        ∧ (t.access = some .read → exec (.writtenOctet p o) s = .next (s'.setPort p u))
        ∧ (t.access = some .write → (t.voided = true ∨ t.phaseAtStart = .startUp) →
            exec (.writtenOctet p o) s = .next (s'.setPort p u))
        ∧ (t.access = some .write → t.voided = false → t.phaseAtStart = .command → t.frameTaken = false →
            exec (.writtenOctet p o) s = .next (s'.setPort p { u with partialFrame := u.partialFrame ++ [o] }))
        ∧ (t.access = some .write → t.voided = false →
            (t.phaseAtStart = .executing ∨ t.phaseAtStart = .result ∨ (t.phaseAtStart = .command ∧ t.frameTaken = true)) →
            exec (.writtenOctet p o) s = .next (s'.setPort p { u with ignored := true }))

/-- TRANSACTION_END: a frame left incomplete is discarded and sets FRAMING; without one no flag is set (R147). A frame that is complete by then
has been handed on first (assumption 6). -/
def Obligations.TransactionEndDiscardsPartial : Prop :=
  ∀ (p : Port) (s : State),
    let s' := s.settlePort p
    let u := s'.port p
    u.transaction.isSome = true →
      (u.partialFrame = [] → exec (.transactionEnd p) s = .next (s'.setPort p { u with transaction := none }))
        ∧ (u.partialFrame ≠ [] →
            exec (.transactionEnd p) s =
              .next (s'.setPort p { u with transaction := none, partialFrame := [], framing := true }))

/-- The command code table (section 9.6). -/
def Obligations.CommandCodeTable : Prop :=
  ∀ p : Port,
    (∀ code : Octet, commandOf code p = none ↔
        (code = 0x00 ∨ code = 0x07 ∨ (0x09 ≤ code.toNat ∧ code.toNat ≤ 0x0F) ∨ code = 0x1E ∨ code = 0x1F ∨ 0x23 ≤ code.toNat))
      ∧ (∀ code : Octet, privileged code = true ↔
          ((0x10 ≤ code.toNat ∧ code.toNat ≤ 0x17) ∨ code = 0x20 ∨ code = 0x22))
      ∧ commandOf 0x01 p = some (.fetchChallenge p) ∧ commandOf 0x02 p = some (.submitAnswer p)
      ∧ commandOf 0x03 p = some (.readSupervision p) ∧ commandOf 0x04 p = some (.configureSupervision p)
      ∧ commandOf 0x05 p = some (.takeAuthority p) ∧ commandOf 0x06 p = some (.yieldAuthority p)
      ∧ commandOf 0x08 p = some (.collectAttention p) ∧ commandOf 0x10 p = some (.openCircuit p)
      ∧ commandOf 0x11 p = some (.closeCircuit p) ∧ commandOf 0x12 p = some (.holdCircuit p)
      ∧ commandOf 0x13 p = some (.resumeCircuit p) ∧ commandOf 0x14 p = some (.setTiming p)
      ∧ commandOf 0x15 p = some (.setPaths p) ∧ commandOf 0x16 p = some (.setProbing p)
      ∧ commandOf 0x17 p = some (.setPlayout p) ∧ commandOf 0x18 p = some (.readCircuit p)
      ∧ commandOf 0x19 p = some (.readPlayout p) ∧ commandOf 0x1A p = some (.readTiming p)
      ∧ commandOf 0x1B p = some (.readPaths p) ∧ commandOf 0x1C p = some (.readDelay p)
      ∧ commandOf 0x1D p = some (.readCounters p) ∧ commandOf 0x20 p = some (.configureReference p)
      ∧ commandOf 0x21 p = some (.readReference p) ∧ commandOf 0x22 p = some (.configurePath p)

/-- COMMAND_FRAME_COMPLETE: the port answers an unknown code itself; it holds a frame back behind an orphan; the authority unit refuses a privileged
code from a port that is not the holder, and its refusal returns by RESULT_ARRIVAL (assumption 16); any other frame is with its owner (R147, R149,
R152). `settlePort` is what this command leaves: the frame handed on when one is complete at the port, and the state as it was otherwise. -/
def Obligations.CompleteFrameHandedOn : Prop :=
  (∀ (p : Port) (s : State),
    let complete : Prop :=
      (s.port p).phase = .command
        ∧ ∃ (code length : Octet) (rest : List Octet),
            (s.port p).partialFrame = code :: length :: rest ∧ length.toNat ≤ rest.length
    exec (.commandFrameComplete p) s = .next (s.settlePort p)
      ∧ (¬complete → s.settlePort p = s)
      ∧ (complete → ((s.settlePort p).port p).phase ≠ .command ∧ ((s.settlePort p).port p).partialFrame = []))
  ∧ ∀ (p : Port) (code : Octet) (params : List Octet) (s : State),
    (s.port p).phase = .command → (s.port p).partialFrame = code :: octet params.length :: params → params.length ≤ 255 →
      let taken : PortUnit := { s.port p with
        partialFrame := [], transaction := (s.port p).transaction.map fun t => { t with frameTaken := true } }
      let f : CommandFrame := ⟨code, params⟩
      (commandOf code p = none →
          exec (.commandFrameComplete p) s =
            .next (s.setPort p { taken with phase := .result, result := some [0x01, 0x00], readPos := 0 }))
        ∧ (commandOf code p ≠ none → (s.port p).orphan = true →
            exec (.commandFrameComplete p) s =
              .next (s.setPort p { taken with phase := .executing, waiting := some f }))
        ∧ (commandOf code p ≠ none → (s.port p).orphan = false → privileged code = true → s.holder ≠ some p →
            exec (.commandFrameComplete p) s =
              .next ((s.setPort p { taken with phase := .executing, inFlight := some f }).answers p [0x04, 0x00]))
        ∧ (commandOf code p ≠ none → (s.port p).orphan = false → (privileged code = false ∨ s.holder = some p) →
            exec (.commandFrameComplete p) s =
              .next ((s.setPort p { taken with phase := .executing, inFlight := some f }).setTransit p
                (some (.atOwner f))))

/-- RESULT_ARRIVAL: the result of the command in flight becomes the pending result; an orphan's result is discarded, and a waiting frame is then
handed on with the authority check, whose refusal NO_AUTHORITY returns by RESULT_ARRIVAL as well (R150, R152, assumption 16). -/
def Obligations.ResultArrivalTaken : Prop :=
  ∀ (p : Port) (r : List Octet) (s : State), s.transit.get p = some (.returning r) →
    let u := s.port p
    (u.orphan = false → u.phase = .executing → u.inFlight.isSome = true →
        exec (.resultArrival p) s =
          .next ((s.setTransit p none).setPort p
            { u with phase := .result, result := some r, readPos := 0, inFlight := none }))
      ∧ (u.orphan = true → u.waiting = none →
          exec (.resultArrival p) s = .next ((s.setTransit p none).setPort p { u with orphan := false }))
      ∧ (u.orphan = true → ∀ f : CommandFrame, u.waiting = some f →
          exec (.resultArrival p) s =
            .next ((s.setPort p { u with orphan := false, waiting := none, inFlight := some f }).setTransit p
              (some (if privileged f.code = true ∧ s.holder ≠ some p then .returning [0x04, 0x00] else .atOwner f))))

/-- RESET_N_RELEASE puts both ports in START-UP with nothing held; START_UP_END, 1 ms of local time later, puts them in COMMAND (R144).
That no command is then with an owner is assumption 20. -/
def Obligations.StartUpAfterRelease : Prop :=
  ∀ s : State,
    (s.resetAsserted = true → ∃ t : State, exec .resetNRelease s = .next t
      ∧ (∀ p : Port, t.port p = ⟨.startUp, [], none, none, false, none, 0, false, false, none⟩)
      ∧ t = { s with resetAsserted := false, startUpFrom := some s.localTime, ports := t.ports, transit := ⟨none, none⟩ })
    ∧ (∀ start : Time, s.startUpFrom = some start → 10000 ≤ (s.localTime - start).toNat →
        ∃ t : State, exec .startUpEnd s = .next t
          ∧ (∀ p : Port, (s.port p).phase = .startUp → t.port p = { s.port p with phase := .command })
          ∧ (∀ p : Port, (s.port p).phase ≠ .startUp → t.port p = s.port p)
          ∧ t = { s with startUpFrom := none, ports := t.ports })

/-- The controller reset event at the port of the unit that raises it (R151). A frame whose last octet was complete has been handed on first
(R154). -/
def Obligations.ControllerResetAtPort : Prop :=
  ∀ (p : Port) (s : State),
    let s' := s.settlePort p
    let u := s'.port p
    let void : Option Transaction := u.transaction.map fun t => { t with voided := true }
    (u.phase = .command → s.controllerResetAtPort p = s'.setPort p { u with partialFrame := [], transaction := void })
      ∧ (u.phase = .executing → u.waiting = none → u.inFlight.isSome = true →
          s.controllerResetAtPort p =
            s'.setPort p { u with phase := .command, orphan := true, inFlight := none, transaction := void })
      ∧ (u.phase = .executing → u.waiting.isSome = true →
          s.controllerResetAtPort p = s'.setPort p { u with phase := .command, waiting := none, transaction := void })
      ∧ (u.phase = .result →
          s.controllerResetAtPort p =
            s'.setPort p { u with phase := .command, result := none, readPos := 0, transaction := void })

/-! ### Supervision and authority (chapter 10) -/

/-- Steps and eligibility (R162), the time of the window timer, and the judgement of an elapsed time in 100 ns units (R158, R165). That a time
of 0 is inside a window that opens at 0, also where an expiry of the same moment has restarted the timer (R168), is the model's choice
(assumption 26). -/
def Obligations.StandingSteps : Prop :=
  (∀ u : SupUnit,
    u.stepGood.standing = min 15 (u.standing + u.settings.goodStep) ∧ u.stepGood.flags = u.flags
      ∧ u.stepBad.standing = u.standing - u.settings.badStep
      ∧ u.stepBad.flags = (if u.standing ≤ u.settings.badStep then u.flags ||| 0x0100#16 else u.flags)
      ∧ (∀ w : SupUnit, (w = u.stepGood ∨ w = u.stepBad ∨ w = u.judge) →
          ((u.eligible = false → (w.eligible = true ↔ u.settings.high ≤ w.standing))
            ∧ (u.eligible = true → (w.eligible = false ↔ w.standing < u.settings.low))
            ∧ w = { u with standing := w.standing, eligible := w.eligible, flags := w.flags }))
      ∧ u.judge.standing = u.standing ∧ u.judge.flags = u.flags
      ∧ ∀ now : Time,
          (u.windowTimer = none → u.windowElapsed now = 0)
            ∧ ∀ start : Time, u.windowTimer = some start → u.windowElapsed now = (now - start).toNat)
    ∧ ∀ opens closes t : Nat,
        (judgeWindow opens closes t = .early ↔ t < opens * 10000)
          ∧ (judgeWindow opens closes t = .inside ↔ (opens * 10000 ≤ t ∧ t ≤ closes * 10000))
          ∧ (judgeWindow opens closes t = .late ↔ (opens * 10000 ≤ t ∧ closes * 10000 < t))

/-- What an event of a supervision unit does beyond the unit's own values: one SUPERVISION post to the unit's own queue when it sets a flag or
changes eligibility (R163); authority passes with the loss of the holder's eligibility (R167); and a controller reset event (R164, R151) drives CRST
low, is counted, sets CONTROLLER_RESET, returns to SUP_IDLE and reaches the port. That SUPERVISION is posted before AUTHORITY, and that a
controller reset event falls after the command's own effects, is the model's choice (assumptions 9 and 17). -/
def Obligations.SupervisionEventTakesEffect : Prop :=
  ∀ (s : State) (p : Port) (u : SupUnit) (flagged reset : Bool),
    let old := s.supUnit p
    let new : SupUnit :=
      if reset = true then
        { u with state := .idle, windowTimer := none, flags := u.flags ||| 0x0400#16,
                 resetCount := min 15 (u.resetCount + 1), crstTimer := some s.localTime }
      else u
    let value : BitVec 16 := new.flags ||| (if new.eligible then 0x8000#16 else 0#16)
    let stored := s.setSup p new
    let posted := if flagged = true ∨ old.eligible ≠ new.eligible then stored.postTo p (.port p) .supervision value else stored
    let heir : Option Port := if (s.supUnit p.other).eligible then some p.other else none
    let passed :=
      if old.eligible = true ∧ new.eligible = false ∧ s.holder = some p then
        (posted.setHolder heir).post (.port p) .authority (hiLo (holderCode (some p)) (holderCode heir))
      else posted
    s.supEvent p ⟨u, flagged, reset⟩ = if reset = true then passed.controllerResetAtPort p else passed

/-- FETCH_CHALLENGE: it starts supervision, judges the fetch, or is out of turn, and answers with the challenge as it leaves it; a fetch that finds
the answer-correct mark set advances the register (R157, R159). A length other than 0 is refused. That a fetch whose bad step brings the controller
reset event renews the register first, so that the event falls after its own effects, is assumption 17. -/
def Obligations.FetchChallengeServed : Prop :=
  ∀ (p : Port) (params : List Octet) (s : State), s.frameAtOwner p 0x01 params →
    let u := s.supUnit p
    let t := u.windowElapsed s.localTime
    let serve (e : SupEffect) : Host.Outcome State Fault Refusal :=
      .next ((s.supEvent p e).answers p
        [0x00, 0x02, octet (e.unit.challenge.toNat / 256), octet (e.unit.challenge.toNat % 256)])
    let renewed (w : SupUnit) : SupUnit :=
      { w with
        challenge := if w.answerCorrect then challengeAdvance w.challenge else w.challenge,
        answerCorrect := false, state := .awaitAnswer, windowTimer := some s.localTime }
    let bad (f : BitVec 16) : SupUnit := ({ u with flags := u.flags ||| f }).stepBad
    let zero (w : SupUnit) : Bool := w.standing = 0 && w.settings.resetOnZero
    (params ≠ [] → exec (.fetchChallenge p) s = .next (s.answers p [0x02, 0x00]))
      ∧ (params = [] → u.state = .idle → exec (.fetchChallenge p) s = serve ⟨renewed u, false, false⟩)
      ∧ (params = [] → u.state = .awaitFetch →
          (u.settings.strict = false ∨ judgeWindow u.settings.fetchOpen u.settings.fetchClose t = .inside) →
          exec (.fetchChallenge p) s = serve ⟨renewed u.stepGood, false, false⟩)
      ∧ (params = [] → u.state = .awaitFetch → u.settings.strict = true →
          judgeWindow u.settings.fetchOpen u.settings.fetchClose t = .early →
          exec (.fetchChallenge p) s = serve ⟨renewed (bad 0x0001), true, zero (bad 0x0001)⟩)
      ∧ (params = [] → u.state = .awaitFetch → u.settings.strict = true →
          judgeWindow u.settings.fetchOpen u.settings.fetchClose t = .late →
          exec (.fetchChallenge p) s = serve ⟨renewed (bad 0x0002), true, zero (bad 0x0002)⟩)
      ∧ (params = [] → u.state = .awaitAnswer →
          exec (.fetchChallenge p) s =
            serve ⟨{ bad 0x0004 with windowTimer := some s.localTime }, true, zero (bad 0x0004)⟩)

/-- SUBMIT_ANSWER: refused before supervision has started; out of turn in AWAIT_FETCH; judged against the window and the expected answer in
AWAIT_ANSWER (R160). -/
def Obligations.SubmitAnswerServed : Prop :=
  ∀ (p : Port) (params : List Octet) (s : State), s.frameAtOwner p 0x02 params →
    let u := s.supUnit p
    let judged := judgeWindow u.settings.answerOpen u.settings.answerClose (u.windowElapsed s.localTime)
    let serve (e : SupEffect) : Host.Outcome State Fault Refusal := .next ((s.supEvent p e).answers p [0x00, 0x00])
    let awaiting (w : SupUnit) : SupUnit := { w with state := .awaitFetch, windowTimer := some s.localTime }
    let bad (f : BitVec 16) : SupUnit := ({ u with flags := u.flags ||| f }).stepBad
    let zero (w : SupUnit) : Bool := w.standing = 0 && w.settings.resetOnZero
    (params.length ≠ 4 → exec (.submitAnswer p) s = .next (s.answers p [0x02, 0x00]))
      ∧ (params.length = 4 → u.state = .idle → exec (.submitAnswer p) s = .next (s.answers p [0x0A, 0x00]))
      ∧ ∀ answer : BitVec 32, params = answerParams answer →
          (u.state = .awaitFetch → exec (.submitAnswer p) s = serve ⟨bad 0x0004, true, zero (bad 0x0004)⟩)
            ∧ (u.state = .awaitAnswer → judged = .early →
                exec (.submitAnswer p) s = serve ⟨awaiting (bad 0x0008), true, zero (bad 0x0008)⟩)
            ∧ (u.state = .awaitAnswer → judged = .late →
                exec (.submitAnswer p) s = serve ⟨awaiting (bad 0x0010), true, zero (bad 0x0010)⟩)
            ∧ (u.state = .awaitAnswer → judged = .inside → answer ≠ expectedAnswer u.challenge u.settings.key →
                exec (.submitAnswer p) s = serve ⟨awaiting (bad 0x0020), true, zero (bad 0x0020)⟩)
            ∧ (u.state = .awaitAnswer → judged = .inside → answer = expectedAnswer u.challenge u.settings.key →
                exec (.submitAnswer p) s = serve ⟨awaiting { u.stepGood with answerCorrect := true }, false, false⟩)

/-- The challenge register and the expected answer (R157): bit by bit an advance shifts left and takes the exclusive-or of bits 15, 14, 12
and 3 in bit 0; it can be undone; it never reaches 0000h; an answer in time is held against the key as it is then stored; and in every step
a unit's register keeps its value, or advances once at a fetch of its own port that finds the mark set, or takes its seed at device
reset. -/
def Obligations.ChallengeRegisterAdvances : Prop :=
  (∀ (v : BitVec 16) (i : Nat), i < 15 → (challengeAdvance v).getLsbD (i + 1) = v.getLsbD i)
    ∧ (∀ v : BitVec 16, (challengeAdvance v).getLsbD 0 =
        ((v.getLsbD 15).xor (v.getLsbD 14)).xor ((v.getLsbD 12).xor (v.getLsbD 3)))
    ∧ (∀ v w : BitVec 16, challengeAdvance v = challengeAdvance w → v = w)
    ∧ (∀ v : BitVec 16, v ≠ 0 → challengeAdvance v ≠ 0)
    ∧ (∀ challenge key : BitVec 16, ∀ i : Nat, i < 16 →
        (expectedAnswer challenge key).getLsbD (16 + i) = (challenge.getLsbD i).xor (key.getLsbD i)
          ∧ (expectedAnswer challenge key).getLsbD i = !((challenge.getLsbD i).xor (key.getLsbD i)))
    ∧ expectedAnswer 0x1A2B 0x5A5A = 0x4071BF8E
    ∧ (∀ (p : Port) (answer : BitVec 32) (s : State), s.frameAtOwner p 0x02 (answerParams answer) →
        let u := s.supUnit p
        u.state = .awaitAnswer →
          judgeWindow u.settings.answerOpen u.settings.answerClose (u.windowElapsed s.localTime) = .inside →
          ∃ t : State, exec (.submitAnswer p) s = .next t
            ∧ (t.supUnit p).answerCorrect =
                (if answer = expectedAnswer u.challenge u.settings.key then true else u.answerCorrect))
    ∧ challengeAdvance 0x1A2B = 0x3456 ∧ challengeAdvance 0x3456 = 0x68AD ∧ challengeAdvance 0x3C4D = 0x789A
    ∧ (∀ (i : Instr) (s t : State) (p : Port), exec i s = .next t →
        (t.supUnit p).challenge = (s.supUnit p).challenge
          ∨ (i = .fetchChallenge p ∧ (s.supUnit p).answerCorrect = true
              ∧ (t.supUnit p).challenge = challengeAdvance (s.supUnit p).challenge)
          ∨ (i = .deviceReset ∧ (t.supUnit p).challenge = if p = .cp0 then 0x1A2B else 0x3C4D))

/-- CONFIGURE_SUPERVISION: in SUP_IDLE all fourteen settings are replaced and eligibility is judged; once supervision has started only the window
opens may change, and a change restarts the timer, sets WINDOW_CHANGED and costs a bad step (R156). -/
def Obligations.ConfigureSupervisionServed : Prop :=
  ∀ (p : Port) (params : List Octet) (s : State), s.frameAtOwner p 0x04 params →
    let u := s.supUnit p
    (params.length ≠ 15 → exec (.configureSupervision p) s = .next (s.answers p [0x02, 0x00]))
      ∧ ∀ t : SupSettings, t.inRange = true → params = supervisionParams t →
          (u.state = .idle →
              exec (.configureSupervision p) s =
                .next ((s.supEvent p ⟨({ u with settings := t }).judge, false, false⟩).answers p [0x00, 0x00]))
            ∧ (u.state ≠ .idle → { t with answerOpen := u.settings.answerOpen, fetchOpen := u.settings.fetchOpen } ≠ u.settings →
              exec (.configureSupervision p) s = .next (s.answers p [0x0B, 0x00]))
            ∧ (u.state ≠ .idle → t = u.settings →
              ∃ t' : State, exec (.configureSupervision p) s = .next t' ∧ t'.sup = s.sup ∧ t' = s.answers p [0x00, 0x00])
            ∧ (u.state ≠ .idle → t ≠ u.settings →
              { t with answerOpen := u.settings.answerOpen, fetchOpen := u.settings.fetchOpen } = u.settings →
              let w := ({ u with settings := t, windowTimer := some s.localTime, flags := u.flags ||| 0x0200#16 }).stepBad
              exec (.configureSupervision p) s =
                .next ((s.supEvent p ⟨w, true, w.standing = 0 && t.resetOnZero⟩).answers p [0x00, 0x00]))

/-- WINDOW_TIMER_EXPIRY at close + grace: the flag of the state, a bad step, and a restart of the timer, or a controller reset event with reset on
timeout on or at standing 0 with reset on zero on (R161). CRST_TIMER_EXPIRY after 10 ms returns CRST high, and CRST is low exactly while its
timer runs (R153, R164). -/
def Obligations.SupervisionTimersExpire : Prop :=
  ∀ (p : Port) (start : Time) (s : State),
    let u := s.supUnit p
    let t := (s.localTime - start).toNat
    let bad (f : BitVec 16) : SupUnit := ({ u with flags := u.flags ||| f }).stepBad
    let after (f : BitVec 16) : State := s.supEvent p
      (if u.settings.resetOnTimeout = true then ⟨bad f, true, true⟩
       else ⟨{ bad f with windowTimer := some s.localTime }, true, (bad f).standing = 0 && u.settings.resetOnZero⟩)
    (u.windowTimer = some start → u.state = .awaitAnswer → (u.settings.answerClose + u.settings.answerGrace) * 10000 ≤ t →
        exec (.windowTimerExpiry p) s = .next (after 0x0040))
      ∧ (u.windowTimer = some start → u.state = .awaitFetch → (u.settings.fetchClose + u.settings.fetchGrace) * 10000 ≤ t →
        exec (.windowTimerExpiry p) s = .next (after 0x0080))
      ∧ (u.crstTimer = some start → 100000 ≤ t →
        ∃ t' : State, exec (.crstTimerExpiry p) s = .next t' ∧ t'.crstLow p = false
          ∧ t' = s.setSup p { u with crstTimer := none })
      ∧ (s.crstLow p = true ↔ ∃ since : Time, u.crstTimer = some since)

/-- TAKE_AUTHORITY in the order of its checks, and YIELD_AUTHORITY, with the codes of the holder and the two octets of the latest value (R166,
R167). -/
def Obligations.AuthorityTakenAndYielded : Prop :=
  [none, some Port.cp0, some .cp1].map holderCode = [0x00, 0x01, 0x02]
  ∧ (∀ high low : Nat, high < 256 → low < 256 →
      (hiLo high low).toNat / 256 = high ∧ (hiLo high low).toNat % 256 = low)
  ∧ ∀ (p : Port) (s : State),
    (∀ params : List Octet, s.frameAtOwner p 0x05 params →
        (params ≠ [] → exec (.takeAuthority p) s = .next (s.answers p [0x02, 0x00]))
          ∧ (params = [] → s.holder = some p → exec (.takeAuthority p) s = .next (s.answers p [0x00, 0x00]))
          ∧ (params = [] → s.holder ≠ some p → (s.supUnit p).eligible = false →
              exec (.takeAuthority p) s = .next (s.answers p [0x08, 0x00]))
          ∧ (params = [] → s.holder = some p.other → (s.supUnit p).eligible = true →
              exec (.takeAuthority p) s = .next (s.answers p [0x09, 0x00]))
          ∧ (params = [] → s.holder = none → (s.supUnit p).eligible = true →
              exec (.takeAuthority p) s =
                .next ({ s with
                  holder := some p,
                  attn := s.attnAfter [⟨.port p, .authority, hiLo 0 (holderCode (some p))⟩] }.answers p [0x00, 0x00])))
      ∧ (∀ params : List Octet, s.frameAtOwner p 0x06 params →
          let heir : Option Port := if (s.supUnit p.other).eligible then some p.other else none
          (params ≠ [] → exec (.yieldAuthority p) s = .next (s.answers p [0x02, 0x00]))
            ∧ (params = [] → s.holder ≠ some p → exec (.yieldAuthority p) s = .next (s.answers p [0x05, 0x00]))
            ∧ (params = [] → s.holder = some p →
                exec (.yieldAuthority p) s =
                  .next ({ s with
                    holder := heir,
                    attn := s.attnAfter [⟨.port p, .authority, hiLo (holderCode (some p)) (holderCode heir)⟩] }.answers p
                      [0x00, 0x00])))

/-- READ_SUPERVISION: the twenty-two data octets, then the flags of the calling port's unit clear (R165); with the state codes (R155). -/
def Obligations.ReadSupervisionReports : Prop :=
  ∀ (p : Port) (params : List Octet) (s : State), s.frameAtOwner p 0x03 params →
    let u := s.supUnit p
    let ms := u.windowElapsed s.localTime / 10000
    (params ≠ [] → exec (.readSupervision p) s = .next (s.answers p [0x02, 0x00]))
      ∧ (params = [] →
          exec (.readSupervision p) s =
            .next ((s.setSup p { u with flags := 0 }).answers p
              [0x00, 22, octet (supCode u.state), octet u.standing, flagOctet u.eligible, octet u.resetCount,
               octet (u.flags.toNat / 256), octet (u.flags.toNat % 256), octet (ms / 256), octet (ms % 256),
               flagOctet u.answerCorrect, octet u.settings.answerOpen, octet u.settings.answerClose,
               octet u.settings.answerGrace, octet u.settings.fetchOpen, octet u.settings.fetchClose,
               octet u.settings.fetchGrace, flagOctet u.settings.strict, flagOctet u.settings.resetOnTimeout,
               flagOctet u.settings.resetOnZero, octet u.settings.goodStep, octet u.settings.badStep, octet u.settings.low,
               octet u.settings.high]))
      ∧ [SupState.idle, .awaitAnswer, .awaitFetch].map supCode = [0x00, 0x01, 0x02]
      ∧ [false, true].map flagOctet = [0x00, 0x01]


/-! ### The circuit table and the buffer pool (chapter 1) -/

/-- The needed blocks of every layout in range (R11). -/
def Obligations.NeededBlocks : Prop :=
  (∀ l : Layout, l.wellFormed = true →
    let payload := 2 ^ l.k * l.fpp * l.octetsPerFrame
    payload ≤ 256 * l.neededBlocks ∧ 256 * l.neededBlocks < payload + 256 ∧ 1 ≤ l.neededBlocks ∧ l.neededBlocks ≤ 512
      ∧ 4 * l.neededBlocks ≤ 2048
      ∧ (l.mode = .unstructured → l.octetsPerFrame = 32)
      ∧ (l.mode = .structured → l.octetsPerFrame = l.slots.length))
    ∧ ∀ l : Layout,
        (l.octetsPerFrame = 1 → l.fpp = 1 → l.k = 2 → l.neededBlocks = 1)
          ∧ (l.octetsPerFrame = 3 → l.fpp = 4 → l.k = 4 → l.neededBlocks = 1)
          ∧ (l.octetsPerFrame = 3 → l.fpp = 8 → l.k = 5 → l.neededBlocks = 3)
          ∧ (l.octetsPerFrame = 30 → l.fpp = 8 → l.k = 6 → l.neededBlocks = 60)
          ∧ (l.octetsPerFrame = 32 → l.fpp = 4 → l.k = 3 → l.neededBlocks = 4)
          ∧ (l.octetsPerFrame = 32 → l.fpp = 8 → l.k = 7 → l.neededBlocks = 128)
          ∧ (l.octetsPerFrame = 32 → l.fpp = 32 → l.k = 7 → l.neededBlocks = 512)

/-- The parameter octets of every command, read and written: a frame is accepted exactly when it spells operands in range, every octet of them
counts, and each other frame is refused with its own code. -/
def Obligations.ParametersRead : Prop :=
  ReadsExactly parseCircuit (fun ps => ps.length = 1) (fun _ => True) circuitParams
    ∧ ReadsExactly parseOpen openLengthOk (fun x => x.2.wellFormed = true) (fun x => openParams x.1 x.2)
    ∧ ReadsExactly parseClose (fun ps => ps.length = 2) (fun x => x.2 ≤ 255) (fun x => closeParams x.1 x.2)
    ∧ ReadsExactly parseSetPaths (fun ps => ps.length = 20) (fun x => x.2.inRange = true) (fun x => setPathsParams x.1 x.2)
    ∧ ReadsExactly parseSetProbing (fun ps => ps.length = 10) (fun x => x.2.inRange = true)
        (fun x => setProbingParams x.1 x.2)
    ∧ ReadsExactly parseSetPlayout (fun ps => ps.length = 5) (fun x => x.2.inRange = true)
        (fun x => setPlayoutParams x.1 x.2)
    ∧ (∀ (c : CircuitId) (t : TimingSettings), t.carried = true →
        parseSetTiming (setTimingParams c t) = .ok (c, { t with lim := min 100000 (max 1000 t.lim) }))
    ∧ (∀ (ps : List Octet) (x : CircuitId × TimingSettings), parseSetTiming ps = .ok x →
        ∃ t : TimingSettings, t.carried = true ∧ ps = setTimingParams x.1 t)
    ∧ (∀ ps : List Octet, parseSetTiming ps = .error .badLength ↔ ps.length ≠ 9)
    ∧ ReadsExactly parseNone (fun ps => ps.length = 0) (fun _ => True) (fun _ => [])
    ∧ ReadsExactly parseReadPaths (fun ps => ps.length = 1) (fun _ => True) (fun o => [objectOctet o])
    ∧ ReadsExactly parseReadCounters (fun ps => ps.length = 2) (fun x => counterObject x.1 x.2 = true)
        (fun x => readCountersParams x.1 x.2)
    ∧ ReadsExactly parseConfigureReference (fun ps => ps.length = 3)
        (fun x => within 1 255 x.1 = true ∧ within 1 15 x.2.1 = true) (fun x => configureReferenceParams x.1 x.2.1 x.2.2)
    ∧ ReadsExactly parseConfigurePath (fun ps => ps.length = 9) (fun x => individual x.2.1 = true)
        (fun x => configurePathParams x.1 x.2.1 x.2.2)
    ∧ ReadsExactly parseAnswer (fun ps => ps.length = 4) (fun _ => True) answerParams
    ∧ ReadsExactly parseSupervision (fun ps => ps.length = 15) (fun t => t.inRange = true) supervisionParams

/-- Each owner refuses a frame of its command with a wrong length with BAD_LENGTH and one with a value out of range with BAD_PARAMETER, and
nothing changes. -/
def Obligations.BadFramesRefused : Prop :=
  RefusesBadFrames .openCircuit 0x10 openLengthOk (fun x : CircuitId × Layout => x.2.wellFormed = true)
      (fun x => openParams x.1 x.2)
    ∧ RefusesBadFrames .closeCircuit 0x11 (fun ps => ps.length = 2) (fun x : CircuitId × Nat => x.2 ≤ 255)
        (fun x => closeParams x.1 x.2)
    ∧ RefusesBadFrames .holdCircuit 0x12 (fun ps => ps.length = 1) (fun _ => True) circuitParams
    ∧ RefusesBadFrames .resumeCircuit 0x13 (fun ps => ps.length = 1) (fun _ => True) circuitParams
    ∧ RefusesBadFrames .setTiming 0x14 (fun ps => ps.length = 9) (fun x : CircuitId × TimingSettings => x.2.carried = true)
        (fun x => setTimingParams x.1 x.2)
    ∧ RefusesBadFrames .setPaths 0x15 (fun ps => ps.length = 20) (fun x : CircuitId × PathSettings => x.2.inRange = true)
        (fun x => setPathsParams x.1 x.2)
    ∧ RefusesBadFrames .setProbing 0x16 (fun ps => ps.length = 10)
        (fun x : CircuitId × ProbeSettings => x.2.inRange = true) (fun x => setProbingParams x.1 x.2)
    ∧ RefusesBadFrames .setPlayout 0x17 (fun ps => ps.length = 5)
        (fun x : CircuitId × PlayoutSettings => x.2.inRange = true) (fun x => setPlayoutParams x.1 x.2)
    ∧ RefusesBadFrames .readCircuit 0x18 (fun ps => ps.length = 1) (fun _ => True) circuitParams
    ∧ RefusesBadFrames .readPlayout 0x19 (fun ps => ps.length = 1) (fun _ => True) circuitParams
    ∧ RefusesBadFrames .readTiming 0x1A (fun ps => ps.length = 1) (fun _ => True) circuitParams
    ∧ RefusesBadFrames .readPaths 0x1B (fun ps => ps.length = 1) (fun _ => True) (fun o => [objectOctet o])
    ∧ RefusesBadFrames .readDelay 0x1C (fun ps => ps.length = 1) (fun _ => True) circuitParams
    ∧ RefusesBadFrames .readCounters 0x1D (fun ps => ps.length = 2)
        (fun x : ReadObject × Path => counterObject x.1 x.2 = true) (fun x => readCountersParams x.1 x.2)
    ∧ RefusesBadFrames .configureReference 0x20 (fun ps => ps.length = 3)
        (fun x : Nat × Nat × BitVec 7 => within 1 255 x.1 = true ∧ within 1 15 x.2.1 = true)
        (fun x => configureReferenceParams x.1 x.2.1 x.2.2)
    ∧ RefusesBadFrames .readReference 0x21 (fun ps => ps.length = 0) (fun _ : Unit => True) (fun _ => [])
    ∧ RefusesBadFrames .configurePath 0x22 (fun ps => ps.length = 9)
        (fun x : Path × MacAddr × BitVec 16 => individual x.2.1 = true) (fun x => configurePathParams x.1 x.2.1 x.2.2)
    ∧ RefusesBadFrames .configureSupervision 0x04 (fun ps => ps.length = 15)
        (fun t : SupSettings => t.inRange = true) supervisionParams

/-- OPEN_CIRCUIT in the order of its checks after the parameters (R13), and at acceptance the whole record, the pool and what is posted (R14,
R5, R33, R65). The order of the posts is the model's choice (assumption 9); that the requests that still wait are cleared is assumption 10, and
that an EMPTY slot's sequence number, L, R and first-arrival time are 0 is the model's choice (assumption 27). -/
def Obligations.OpenCircuitServed : Prop :=
  ∀ (p : Port) (c : CircuitId) (l : Layout) (s : State), s.frameAtOwner p 0x10 (openParams c l) → l.wellFormed = true →
    let v := s.circuit c
    let tagFree : Prop := ∀ d : CircuitId, d ≠ c → (s.circuit d).state ≠ .closed → (s.circuit d).layoutD.remoteTag ≠ l.remoteTag
    (v.state ≠ .closed → exec (.openCircuit p) s = .next (s.answers p [0x05, 0x00]))
      ∧ (v.state = .closed → ¬tagFree → exec (.openCircuit p) s = .next (s.answers p [0x07, 0x00]))
      ∧ (v.state = .closed → tagFree → s.freeBlocks < l.neededBlocks →
          exec (.openCircuit p) s = .next (s.answers p [0x06, 0x00]))
      ∧ (v.state = .closed → tagFree → l.neededBlocks ≤ s.freeBlocks →
          let preferred := if v.pathSet.mode = .single then v.pathSet.preferred else v.health.active
          let moves : Prop :=
            v.pathSet.mode = .single ∧ (s.pathUnit preferred).linkUp = false ∧ (s.pathUnit preferred.other).linkUp = true
          let alarms := (if v.line.los then 1 else 0) + (if v.line.ais then 2 else 0) + (if l.mode = .structured then 4 else 0)
          ∃ t : State, exec (.openCircuit p) s = .next (t.answers p [0x00, 0x00])
            ∧ t.freeBlocks = s.freeBlocks - l.neededBlocks
            ∧ s.keepsOtherCircuits c t
            ∧ (∃ active : Path, (moves → active = preferred.other) ∧ (¬moves → active = preferred)
              ∧ t.circuit c =
                { v with
                  layout := some l, state := .acquiring, blocksHeld := l.neededBlocks,
                  requests := ⟨false, none, none, false⟩,
                  line := { v.line with
                    framer := if l.mode = .structured then .search else .notRequired, firstTestPassed := false, erroredRun := 0,
                    searchPos := v.line.rxCount, history := [] },
                  packetizer := ⟨true, false, 0, []⟩,
                  ring := List.replicate (2 ^ l.k) .emptySlot,
                  cursor := ⟨none, 0, false, none, 0, 0, 0, none, some s.localTime, none, none, 0, none⟩,
                  timing := ⟨0, 0, 0, 0, 0, 0, ⟨false, false⟩, ⟨false, false⟩⟩,
                  health := ⟨⟨v.pathSet.high, v.pathSet.high⟩, ⟨false, false⟩, active⟩,
                  probing := ⟨if v.probeSet.interval = 0 then none else some s.localTime, 0, ⟨[], []⟩, ⟨0, 0⟩,
                    ⟨⟨0, ⟨none, none⟩, none, 0, false⟩, ⟨0, ⟨none, none⟩, none, 0, false⟩⟩, false⟩,
                  cpCounters := ⟨⟨0, 0, 0, 0, 0, 0, 0, 0, 0, 0⟩, ⟨0, 0, 0, 0, 0, 0, 0, 0, 0, 0⟩⟩,
                  counters := ⟨0, 0, 0⟩ })
            ∧ (∃ tx line : List Event,
                (moves → tx = [⟨.circuit c, .txPathChange, BitVec.ofNat 16 (pathCode preferred.other)⟩]) ∧ (¬moves → tx = [])
                  ∧ (alarms = 0 → line = []) ∧ (alarms ≠ 0 → line = [⟨.circuit c, .lineAlarm, BitVec.ofNat 16 alarms⟩])
                  ∧ t.attn = s.attnAfter (tx ++ line ++ [⟨.circuit c, .circuitState, 0x0001⟩]))
            ∧ t = { s with circuits := t.circuits, freeBlocks := t.freeBlocks, attn := t.attn })

/-- A circuit enters CLOSED (R9, R10, R15, R16): by Close Circuit with drain limit 0 or with the ring already drained, by drain complete and by
drain-limit expiry, and each way leaves the same. Where a Close meets an underrun request that waits in RUNNING, the underrun of a take that came
first drains the ring, so that the Close closes whatever the drain limit, and a Close that reached the circuit table before the take closes, or
enters CLOSING, with the request without effect (R20, R99). That the order is that in which they reach the table is assumption 24; that
CIRCUIT_STATE is posted before UNDERRUN is the model's choice, assumption 9. That the requests that still wait are cleared is assumption 10, that
the framer's positions are kept is assumption 18, and that a circuit with drain remaining 0 waits in CLOSING for its expiry is assumption 28. -/
def Obligations.CircuitEntersClosed : Prop :=
  ∀ (c : CircuitId) (s : State),
    let v := s.circuit c
    let closed : Circuit :=
      { v with
        state := .closed, holdBarrier := false, blocksHeld := 0, drainRemaining := 0, drainFrames := 0,
        requests := ⟨false, none, none, false⟩,
        line := { v.line with framer := .search, firstTestPassed := false, erroredRun := 0, history := [] },
        packetizer := { v.packetizer with running := false, collecting := false, accumulator := [] },
        ring := [],
        cursor := { v.cursor with
          head := none, frameIndex := 0, headTaken := false, hi := none, filledCount := 0, earlyRun := 0, missingRun := 0,
          lastPlayed := none, acqTimer := none },
        timing := { v.timing with integratorSat := ⟨false, false⟩, outputSat := ⟨false, false⟩ },
        probing := { v.probing with timer := none, outstanding := ⟨[], []⟩ } }
    let posting (events : List Event) : State :=
      { s.setCircuit c closed with freeBlocks := s.freeBlocks + v.blocksHeld, attn := s.attnAfter events }
    let after : State := posting [⟨.circuit c, .circuitState, hiLo (stateCode v.state) 0x00⟩]
    (∀ (p : Port) (limit : Nat), s.frameAtOwner p 0x11 (closeParams c limit) → limit ≤ 255 → v.state ≠ .closed →
        ((limit = 0 ∨ v.cursor.filledCount = 0 ∨ v.cursor.head = none) →
            (v.state ≠ .running ∨ ∀ r : UnderrunRequest, v.requests.underrun = some r → r.closesAhead.get p = true) →
            exec (.closeCircuit p) s = .next (after.answers p [0x00, 0x00]))
          ∧ (∀ r : UnderrunRequest, v.state = .running → v.requests.underrun = some r → r.closesAhead.get p = false →
            exec (.closeCircuit p) s =
              .next ((posting [⟨.circuit c, .circuitState, 0x0201⟩, ⟨.circuit c, .underrun, r.head⟩,
                ⟨.circuit c, .circuitState, 0x0100⟩]).answers p [0x00, 0x00])))
      ∧ (v.requests.drainComplete = true → v.state = .closing → exec (.drainComplete c) s = .next after)
      ∧ (v.state = .closing → v.drainRemaining = 0 → exec (.drainLimitExpiry c) s = .next after)

/-- CLOSE_CIRCUIT that starts or restarts a drain, and its refusal; HOLD_CIRCUIT; RESUME_CIRCUIT (R15, R17, R18, with the entries of R5, R7 and
R8). That an entry clears the requests that still wait is assumption 10; a Close that reached the circuit table before an underrun
request is taken first, and the request is without effect, while CircuitEntersClosed has the request that came first (assumption 24). That the
slots of an emptied ring have 0 for sequence number, L, R and first-arrival time is the model's choice (assumption 27). -/
def Obligations.CloseHoldResumeServed : Prop :=
  ∀ (p : Port) (c : CircuitId) (s : State),
    let v := s.circuit c
    let none_ : Requests := ⟨false, none, none, false⟩
    let emptied : List RingSlot := v.ring.map fun _ => .emptySlot
    let flushed (timer : Option Time) : Cursor :=
      { v.cursor with
        head := none, frameIndex := 0, headTaken := false, hi := none, filledCount := 0, earlyRun := 0, missingRun := 0,
        lastPlayed := none, acqTimer := timer }
    let entered (w : Circuit) (code : Nat) : State :=
      { s.setCircuit c w with attn := s.attnAfter [⟨.circuit c, .circuitState, hiLo (stateCode v.state) code⟩] }
    (∀ limit : Nat, s.frameAtOwner p 0x11 (closeParams c limit) → limit ≤ 255 →
        (v.state = .closed → exec (.closeCircuit p) s = .next (s.answers p [0x05, 0x00]))
          ∧ (v.state ≠ .closed → v.state ≠ .closing → limit ≠ 0 → v.cursor.filledCount ≠ 0 → v.cursor.head ≠ none →
              (v.state ≠ .running ∨ ∀ r : UnderrunRequest, v.requests.underrun = some r → r.closesAhead.get p = true) →
              exec (.closeCircuit p) s =
                .next ((entered { v with
                  state := .closing, requests := none_, drainRemaining := limit, drainFrames := 0,
                  packetizer := { v.packetizer with running := false, collecting := false, accumulator := [] },
                  cursor := { v.cursor with acqTimer := none } } 4).answers p [0x00, 0x00]))
          ∧ (v.state = .closing → limit ≠ 0 → v.cursor.filledCount ≠ 0 → v.cursor.head ≠ none →
              exec (.closeCircuit p) s =
                .next ((s.setCircuit c { v with drainRemaining := limit, drainFrames := 0 }).answers p [0x00, 0x00])))
      ∧ (s.frameAtOwner p 0x12 (circuitParams c) →
          ((v.state = .running ∨ (v.state = .acquiring ∧ v.holdBarrier = false)) →
              exec (.holdCircuit p) s =
                .next ((entered { v with
                  state := .hold, requests := none_, ring := emptied, cursor := flushed none,
                  timing := { v.timing with sum := 0, n := 0 } } 3).answers p [0x00, 0x00]))
            ∧ (¬(v.state = .running ∨ (v.state = .acquiring ∧ v.holdBarrier = false)) →
              exec (.holdCircuit p) s = .next (s.answers p [0x05, 0x00])))
      ∧ (s.frameAtOwner p 0x13 (circuitParams c) →
          (v.state = .hold →
              exec (.resumeCircuit p) s =
                .next ((entered { v with
                  state := .acquiring, holdBarrier := true, requests := none_, ring := emptied,
                  cursor := flushed (some s.localTime) } 1).answers p [0x00, 0x00]))
            ∧ (v.state ≠ .hold → exec (.resumeCircuit p) s = .next (s.answers p [0x05, 0x00])))

/-- The requests of the playout unit as the circuit table takes them: each has its effect in the one state that lists it (R4, R6, R81, R91), and
in any other state it is gone without effect. A new acquisition attempt is no state change (R93). CIRCUIT_STATE is posted before UNDERRUN and
OVERRUN by the model's choice (assumption 9). That an entry clears the other requests that wait, and that the acquisition timer does not expire
while an acquisition-complete request waits, is assumption 10. A flushed slot is EMPTY with no payload and an empty delivered-by set (R75); that
its sequence number, L, R and first-arrival time are 0 is the model's choice (assumption 27). -/
def Obligations.PlayoutRequestsTaken : Prop :=
  (let slot := RingSlot.emptySlot
   slot.kind = .empty ∧ slot.payload = [] ∧ slot.deliveredBy = ⟨false, false⟩)
  ∧ ∀ (c : CircuitId) (s : State),
    let v := s.circuit c
    let none_ : Requests := ⟨false, none, none, false⟩
    let restarted : Circuit :=
      { v with
        ring := v.ring.map fun _ => .emptySlot,
        cursor := { v.cursor with
          head := none, frameIndex := 0, headTaken := false, hi := none, filledCount := 0, earlyRun := 0, missingRun := 0,
          lastPlayed := none, acqTimer := some s.localTime } }
    let acquiring (events : List Event) : State :=
      { s.setCircuit c { restarted with state := .acquiring, requests := none_ } with
        attn := s.attnAfter (⟨.circuit c, .circuitState, 0x0201⟩ :: events) }
    (v.requests.acquisitionComplete = true →
        (v.state = .acquiring →
            exec (.acquisitionComplete c) s =
              .next { s.setCircuit c { v with
                  state := .running, holdBarrier := false, requests := none_, cursor := { v.cursor with acqTimer := none },
                  timing := { v.timing with sum := 0, n := 0 } } with
                attn := s.attnAfter [⟨.circuit c, .circuitState, 0x0102⟩] })
          ∧ (v.state ≠ .acquiring →
            exec (.acquisitionComplete c) s =
              .next (s.setCircuit c { v with requests := { v.requests with acquisitionComplete := false } })))
      ∧ (∀ r : UnderrunRequest, v.requests.underrun = some r →
          (v.state = .running → exec (.underrun c) s = .next (acquiring [⟨.circuit c, .underrun, r.head⟩]))
            ∧ (v.state ≠ .running →
              exec (.underrun c) s = .next (s.setCircuit c { v with requests := { v.requests with underrun := none } })))
      ∧ (∀ n : Seq, v.requests.overrun = some n →
          (v.state = .running → exec (.overrun c) s = .next (acquiring [⟨.circuit c, .overrun, n⟩]))
            ∧ (v.state ≠ .running →
              exec (.overrun c) s = .next (s.setCircuit c { v with requests := { v.requests with overrun := none } })))
      ∧ (v.requests.drainComplete = true → v.state ≠ .closing →
          exec (.drainComplete c) s =
            .next (s.setCircuit c { v with requests := { v.requests with drainComplete := false } }))
      ∧ (∀ start : Time, v.cursor.acqTimer = some start → v.state = .acquiring → v.requests.acquisitionComplete = false →
          v.layoutD.acqLimit * 100000 ≤ (s.localTime - start).toNat →
          exec (.acquisitionTimerExpiry c) s =
            .next { s.setCircuit c restarted with
              attn := s.attnAfter [⟨.circuit c, .acquireTimeout, BitVec.ofNat 16 v.cursor.span⟩] })

/-- The commands that read and change nothing: READ_CIRCUIT (R19), READ_PLAYOUT (R38, R98), READ_PATHS (R71, R72), READ_COUNTERS (R174) and
READ_REFERENCE (R128), octet by octet, with the acquisition time remaining, the target depth in use and the codes of the states they show. That drain
remaining can read 0 in CLOSING, until the expiry is taken, is the model's choice (assumption 28). -/
def Obligations.ReadsReport : Prop :=
  ∀ (p : Port) (c : CircuitId) (π : Path) (s : State),
    let v := s.circuit c
    let l := v.layoutD
    let u := v.cursor
    let two (n : Nat) : List Octet := [octet (n / 256), octet (n % 256)]
    let counter (k : Counter) : List Octet := two (k.toNat / 65536) ++ two (k.toNat % 65536)
    let six (a : MacAddr) : List Octet := two (a.toNat / 4294967296) ++ two (a.toNat / 65536 % 65536) ++ two (a.toNat % 65536)
    let signed (i : Int) : List Octet := counter (BitVec.ofInt 32 i)
    let k := v.cpCounters.get π
    let w := s.pathUnit π
    let r := s.ref
    (s.frameAtOwner p 0x18 (circuitParams c) →
        exec (.readCircuit p) s =
          .next (s.answers p ([0x00, octet (19 + l.slots.length), octet c.val, octet (stateCode v.state), flagOctet v.holdBarrier,
            flagOctet v.layout.isSome, flagOctet (decide (l.mode = .structured)), octet l.fpp, octet l.k]
            ++ two l.localTag ++ two l.remoteTag ++ [octet l.acqLimit, octet l.lossThreshold] ++ two v.blocksHeld
            ++ two s.freeBlocks ++ [octet v.drainRemaining, octet l.slots.length] ++ l.slots.map octet)))
      ∧ (s.frameAtOwner p 0x19 (circuitParams c) →
        exec (.readPlayout p) s =
          .next (s.answers p ([0x00, 30, octet c.val, octet (stateCode v.state), flagOctet u.head.isSome]
            ++ two (u.head.getD 0).toNat ++ [octet u.frameIndex, flagOctet u.hi.isSome] ++ two (u.hi.getD 0).toNat
            ++ [octet u.filledCount, octet u.span, octet u.earlyRun, octet u.missingRun, octet (v.acqRemaining s.localTime),
                octet v.playoutSet.targetDepth, octet v.targetInUse, flagOctet (decide (v.playoutSet.concealment = .fill)),
                v.playoutSet.fillOctet, flagOctet v.playoutSet.suppress, (u.lastR.map flagOctet).getD 0xFF,
                (u.farL.map flagOctet).getD 0xFF] ++ counter u.mergeSkew
            ++ [(u.leadPath.map fun q => octet (pathCode q)).getD 0xFF, octet (framerCode v.line.framer), octet v.alarmSet,
                octet v.line.erroredRun, flagOctet (decide (v.state ≠ .closed) && decide (v.line.txKind = .traffic))])))
      ∧ (s.frameAtOwner p 0x1B [objectOctet (.circuit c)] →
        exec (.readPaths p) s =
          .next (s.answers p ([0x00, 25, octet c.val, flagOctet (decide (v.pathSet.mode = .single)),
            octet (pathCode v.pathSet.preferred), octet (pathCode v.health.active), octet (pathBits v.pathSet.receiveSet)]
            ++ six v.pathSet.destination.x ++ six v.pathSet.destination.y
            ++ [octet v.pathSet.goodStep, octet v.pathSet.badStep, octet v.pathSet.low, octet v.pathSet.high,
                octet v.health.count.x, flagOctet v.health.degraded.x, octet v.health.count.y, flagOctet v.health.degraded.y])))
      ∧ (s.frameAtOwner p 0x1B [objectOctet (.path π)] →
        exec (.readPaths p) s =
          .next (s.answers p ([0x00, 11, octet (0x10 + pathCode π), flagOctet w.linkUp] ++ two w.typeCode.toNat
            ++ six w.source ++ [octet w.queue.length])))
      ∧ (s.frameAtOwner p 0x1D (readCountersParams (.circuit c) π) →
        exec (.readCounters p) s =
          .next (s.answers p ([0x00, 54, octet c.val, octet (pathCode π)] ++ counter k.sent ++ counter k.txDrops
            ++ counter k.accepted ++ counter k.duplicates ++ counter k.late ++ counter k.early ++ counter k.notInReceiveSet
            ++ counter k.probesLost ++ counter k.echoesStale ++ counter k.echoesImplausible ++ counter v.counters.missing
            ++ counter v.counters.concealed ++ counter v.counters.faultFrames)))
      ∧ (s.frameAtOwner p 0x1D (readCountersParams (.path π) .x) →
        exec (.readCounters p) s =
          .next (s.answers p ([0x00, 17, octet (0x10 + pathCode π)] ++ counter w.frameErrors ++ counter w.unknownTag
            ++ counter w.format ++ counter w.linkDownDrops)))
      ∧ (s.frameAtOwner p 0x21 [] →
        exec (.readReference p) s =
          .next (s.answers p ([0x00, 18, octet (refCode r.state), octet r.qualCount, octet r.toleranceStored, octet r.qStored,
            octet r.toleranceInUse, octet r.qInUse, octet r.alignmentWord.toNat, flagOctet r.window.isSome]
            ++ counter (BitVec.ofNat 32 r.lastCount) ++ [(r.lastInRange.map flagOctet).getD 0xFF, flagOctet r.offsetValid]
            ++ signed (if r.offsetValid then r.lastOffset else 0))))
      ∧ (u.acqTimer = none → v.acqRemaining s.localTime = 0)
      ∧ (∀ start : Time, u.acqTimer = some start →
          let left := l.acqLimit * 100000 - (s.localTime - start).toNat
          left ≤ v.acqRemaining s.localTime * 100000 ∧ v.acqRemaining s.localTime * 100000 < left + 100000)
      ∧ (∀ l' : Layout, v.layout = some l' → v.targetInUse = min v.playoutSet.targetDepth (2 ^ l'.k - 1))
      ∧ ((u.head = none ∨ u.hi = none) → u.span = 0)
      ∧ (∀ x y : Bool, pathBits ⟨x, y⟩ = (if x then 1 else 0) + (if y then 2 else 0))
      ∧ [CState.closed, .acquiring, .running, .hold, .closing].map stateCode = [0, 1, 2, 3, 4]
      ∧ [FramerState.search, .verify, .aligned, .notRequired].map framerCode = [0, 1, 2, 3]
      ∧ [RefState.absent, .qualifying, .good, .outOfRange].map refCode = [0, 1, 2, 3]

/-- The commands that read and clear: READ_TIMING clears the calling port's copies of both saturation flags (R118), and READ_DELAY sets the
calling port's minimum copies of both paths to none (R142); the other port's copies stay. The asymmetry is the difference of the smoothed round
trips when both paths have one (R140, R142). -/
def Obligations.ClearingReadsReport : Prop :=
  ∀ (p : Port) (c : CircuitId) (s : State),
    let v := s.circuit c
    let two (n : Nat) : List Octet := [octet (n / 256), octet (n % 256)]
    let four (n : Nat) : List Octet := two (n / 65536) ++ two (n % 65536)
    let signed (i : Int) : List Octet := four (BitVec.ofInt 32 i).toNat
    let optional (n : Option Nat) : List Octet := (n.map four).getD [0xFF, 0xFF, 0xFF, 0xFF]
    let onPath (π : Path) : List Octet :=
      let r := v.probing.record.get π
      [octet (v.probing.outstanding.get π).length, octet (v.probing.postponed.get π)] ++ two r.sampleCount
        ++ four r.lastRoundTrip ++ optional (r.minimum.get p) ++ optional r.smoothed ++ [flagOctet r.alarm]
    (s.frameAtOwner p 0x1A (circuitParams c) →
      ∃ w : Circuit,
        exec (.readTiming p) s =
          .next ((s.setCircuit c w).answers p ([0x00, 35, octet c.val, octet (stateCode v.state),
            flagOctet (decide (v.timingSet.mode = .station))] ++ four v.timingSet.lim
            ++ [octet v.timingSet.gp, octet v.timingSet.gi, octet v.timingSet.m] ++ signed v.timing.c ++ signed v.timing.i
            ++ four v.timing.sum ++ two v.timing.n ++ two v.targetFrames ++ signed v.timing.lastError ++ signed v.timing.lastP
            ++ [octet ((if v.timing.integratorSat.get p then 1 else 0) + (if v.timing.outputSat.get p then 2 else 0))]))
          ∧ w = { v with timing := { v.timing with
                    integratorSat := w.timing.integratorSat, outputSat := w.timing.outputSat } }
          ∧ w.timing.integratorSat.get p = false ∧ w.timing.outputSat.get p = false
          ∧ w.timing.integratorSat.get p.other = v.timing.integratorSat.get p.other
          ∧ w.timing.outputSat.get p.other = v.timing.outputSat.get p.other)
      ∧ (s.frameAtOwner p 0x1C (circuitParams c) →
        ∃ w : Circuit,
          exec (.readDelay p) s =
            .next ((s.setCircuit c w).answers p ([0x00, 52, octet c.val, octet (stateCode v.state), octet v.probeSet.interval]
              ++ four v.probeSet.delayLimit ++ four v.probeSet.asymmetryLimit ++ two v.probing.number.toNat
              ++ [flagOctet v.probing.asymmetryAlarm] ++ optional v.probing.asymmetry ++ onPath .x ++ onPath .y))
            ∧ w = { v with probing := { v.probing with record := w.probing.record } }
            ∧ ∀ π : Path,
                let r := v.probing.record.get π
                let r' := w.probing.record.get π
                r' = { r with minimum := r'.minimum } ∧ r'.minimum.get p = none
                  ∧ r'.minimum.get p.other = r.minimum.get p.other)
      ∧ ((v.probing.record.x.smoothed = none ∨ v.probing.record.y.smoothed = none) → v.probing.asymmetry = none)
      ∧ (∀ x y : Nat, v.probing.record.x.smoothed = some x → v.probing.record.y.smoothed = some y →
          v.probing.asymmetry = some ((x : Int) - y).natAbs)

/-! ### Tributary lines (chapter 2) and the packetizer (section 3.1) -/

/-- A received bit period, from TRXC or from the crystal, and the two changes of the receive clock (R21, R22, R25, R30, R31). A bit period of the
crystal is counted once it has passed and not before. An edge of TRXC that finds the crystal to take over, or bit periods of it uncounted, has
these counted first, so that none is lost, and then returns to the received clock. What the line's earlier bits made due has been taken before,
each step as its own command takes it, in their order, until none is asked for (assumption 6); that the crystal takes over with the two silent
periods at once, and that the edge's bit stands for the crystal's bit period in progress, is assumption 14. -/
def Obligations.ReceiveClock : Prop :=
  ∀ (c : CircuitId) (mark : Bool) (s : State),
    let crystal := (s.circuit c).line.crystal
    let phase := (s.circuit c).line.rxPhase
    let s' := s.settleLine c
    let v := s'.circuit c
    let l := v.line
    let searching : Bool :=
      decide (v.state ≠ .closed) && decide (v.layoutD.mode = .structured) && (decide (l.framer = .search) || decide (l.framer = .verify))
    let counted (onCrystal : Bool) (left : Nat) (bit : Bool) : State :=
      s'.setCircuit c { v with line := { l with
        crystal := onCrystal, rxPhase := left, rxCount := l.rxCount + 1, period := bit :: l.period,
        history := if searching then bit :: l.history else l.history,
        spaceRun := if l.los = true ∨ bit = true then 0 else l.spaceRun + 1,
        spanBits := l.spanBits + 1, spanSpaces := if bit then l.spanSpaces else l.spanSpaces + 1 } }
    let lost : State := s.setCircuit c { s.circuit c with line := { (s.circuit c).line with crystal := true } }
    (crystal = false → phase < 20000 →
        exec (.receiveBitPeriod c mark) s = .next (counted false 0 mark)
          ∧ exec (.receiveClockReturn c mark) s = .next (counted false 0 mark)
          ∧ exec (.receiveClockLoss c) s = .next s)
      ∧ (crystal = false → 20000 ≤ phase →
        exec (.receiveClockLoss c) s = .next lost
          ∧ exec (.receiveBitPeriod c mark) s = exec (.receiveClockReturn c mark) lost
          ∧ exec (.receiveClockReturn c mark) s = exec (.receiveClockReturn c mark) lost)
      ∧ (crystal = true → phase < 10000 →
        exec (.receiveBitPeriod c mark) s = .next s
          ∧ exec (.receiveClockReturn c mark) s = .next (counted false 0 mark))
      ∧ (crystal = true → 10000 ≤ phase →
        exec (.receiveBitPeriod c mark) s = .next (counted true (phase - 10000) false)
          ∧ exec (.receiveClockReturn c mark) s = exec (.receiveClockReturn c mark) (counted true (phase - 10000) false))
      ∧ (crystal = true → exec (.receiveClockLoss c) s = .next s)
      ∧ ((s.circuit c).lineDue = none → s' = s)
      ∧ ∀ (n : Nat) (at_ : Nat → State), n ≤ 2048 → at_ 0 = s →
          (∀ i : Nat, i < n → ∃ k : LineStep,
            k.isNext ((at_ i).circuit c) ∧ exec (k.instr c) (at_ i) = .next (at_ (i + 1))) →
          (∀ k : LineStep, ¬k.asked ((at_ n).circuit c)) → s' = at_ n

/-- The alarm set (R32, R33), LOS_SET, LOS_CLEAR and AIS_SPAN_END (R30, R31): each posts LINE_ALARM once, with the set after the change, for a
circuit outside CLOSED, and nothing for a CLOSED one. That two alarms which change at one bit period by two of these steps are two events is the
model's choice (assumption 25), and so is that a count of R30 which is not kept is 0 (assumption 29). -/
def Obligations.LineAlarmsJudged : Prop :=
  ∀ (c : CircuitId) (s : State),
    let v := s.circuit c
    let l := v.line
    let loa : Prop := v.state ≠ .closed ∧ v.layoutD.mode = .structured ∧ (l.framer = .search ∨ l.framer = .verify)
    let posted (w : Line) (changed : Prop) (set : Nat) (t : State) : Prop :=
      (v.state ≠ .closed ∧ changed →
          t = { s.setCircuit c { v with line := w } with
                attn := s.attnAfter [⟨.circuit c, .lineAlarm, BitVec.ofNat 16 set⟩] })
        ∧ (¬(v.state ≠ .closed ∧ changed) → t = s.setCircuit c { v with line := w })
    (loa → v.alarmSet = (if l.los then 1 else 0) + (if l.ais then 2 else 0) + 4)
      ∧ (¬loa → v.alarmSet = (if l.los then 1 else 0) + (if l.ais then 2 else 0))
      ∧ (v.receiveFault = true ↔ v.alarmSet ≠ 0)
      ∧ (l.los = false → 2048 ≤ l.spaceRun →
          ∃ t : State, exec (.losSet c) s = .next t
            ∧ posted { l with los := true, markPeriods := 0, spaceRun := 0 } True (v.alarmSet + 1) t)
      ∧ (l.los = true → 8 ≤ l.markPeriods →
          ∃ t : State, exec (.losClear c) s = .next t
            ∧ posted { l with los := false, markPeriods := 0, spaceRun := 0 } True (v.alarmSet - 1) t)
      ∧ (512 ≤ l.spanBits →
          ∃ (t : State) (ais : Bool), exec (.aisSpanEnd c) s = .next t
            ∧ (ais = true ↔ (l.spanSpaces < 3 ∧ (l.ais = true ∨ l.prevLow = true)))
            ∧ posted { l with ais := ais, prevLow := decide (l.spanSpaces < 3), spanBits := 0, spanSpaces := 0 } (ais ≠ l.ais)
                (v.alarmSet - (if l.ais then 2 else 0) + (if ais then 2 else 0)) t)

/-- The framer of an open STRUCTURED circuit: SEARCH, the two tests of VERIFY with their four outcomes and the entry to ALIGNED, the comparison in
ALIGNED and loss of alignment (R25 to R28, R33). The shortened period at the entry is judged for LOS clearance whole (assumption 12), and
an LOS that it clears is an event of its own (assumption 25). -/
def Obligations.FramerSteps : Prop :=
  (∀ (l : Line) (offset i : Nat), i < 8 → offset + 8 ≤ l.history.length →
      some ((l.historyOctet offset).getLsbD (7 - i)) = l.history.reverse[offset + i]?)
    ∧ ∀ (c : CircuitId) (s : State),
        let v := s.circuit c
        let l := v.line
        let word := s.ref.alignmentWord
        let low (o : Octet) : BitVec 7 := o.setWidth 7
        let with_ (w : Line) : State := s.setCircuit c { v with line := w }
        let failed : State :=
          with_ { l with framer := .search, firstTestPassed := false, searchPos := l.candidate + 1, history := l.history.dropLast }
        v.state ≠ .closed → v.layoutD.mode = .structured →
          (l.framer = .search → l.searchPos + 8 ≤ l.rxCount →
              (low (l.historyOctet 0) = word →
                  exec (.framerSearchOctet c) s =
                    .next (with_ { l with framer := .verify, candidate := l.searchPos, firstTestPassed := false }))
                ∧ (low (l.historyOctet 0) ≠ word →
                  exec (.framerSearchOctet c) s =
                    .next (with_ { l with searchPos := l.searchPos + 1, history := l.history.dropLast })))
            ∧ (l.framer = .verify → l.firstTestPassed = false → l.candidate + 264 ≤ l.rxCount →
              ((l.historyOctet 256).getLsbD 6 = true →
                  exec (.framerVerifyTest c) s = .next (with_ { l with firstTestPassed := true }))
                ∧ ((l.historyOctet 256).getLsbD 6 = false → exec (.framerVerifyTest c) s = .next failed))
            ∧ (l.framer = .verify → l.firstTestPassed = true → l.candidate + 520 ≤ l.rxCount →
              (low (l.historyOctet 512) ≠ word → exec (.framerVerifyTest c) s = .next failed)
                ∧ (low (l.historyOctet 512) = word →
                  let handed := s.handFrame c (List.replicate v.layoutD.octetsPerFrame 0xFF) v.receiveFault
                  exec (.framerVerifyTest c) s =
                    .next { handed.setCircuit c { handed.circuit c with line := { l with
                        framer := .aligned, firstTestPassed := false, erroredRun := 0, frameOdd := false, compared := true,
                        markPeriods :=
                          if l.los = false then l.markPeriods else if true ∈ l.period then l.markPeriods + 1 else 0,
                        period := l.history.take (l.rxCount - (l.candidate + 512)), history := [] } } with
                      attn := s.attnAfter [⟨.circuit c, .lineAlarm,
                        BitVec.ofNat 16 ((if l.los then 1 else 0) + (if l.ais then 2 else 0))⟩] }))
            ∧ (l.framer = .aligned → l.frameOdd = false → l.compared = false → 8 ≤ l.period.length →
              let slot0 := bitsOctet (l.period.reverse.take 8)
              exec (.framerAlignedCompare c) s =
                .next (with_ { l with compared := true, erroredRun := if low slot0 = word then 0 else l.erroredRun + 1 }))
            ∧ (l.framer = .aligned → 3 ≤ l.erroredRun →
              exec (.lossOfAlignment c) s =
                .next { with_ { l with
                    framer := .search, erroredRun := 0, searchPos := l.rxCount - (l.period.length - 8),
                    history := l.period.take (l.period.length - 8) } with
                  attn := s.attnAfter [⟨.circuit c, .lineAlarm, BitVec.ofNat 16 (v.alarmSet + 4)⟩] })

/-- RECEIVE_FRAME_BOUNDARY: the frame that ends, octet by octet, its fault mark, and the judgement of the period for LOS clearance (R21, R23, R28,
R30). -/
def Obligations.ReceivedFrameHandedOver : Prop :=
  ∀ (c : CircuitId) (s : State),
    let v := s.circuit c
    let l := v.line
    let bits := l.period.reverse
    let ended : Line :=
      { l with
        markPeriods :=
          if l.los = false then l.markPeriods else if true ∈ l.period.drop (l.period.length - 256) then l.markPeriods + 1 else 0,
        period := l.period.take (l.period.length - 256), frameOdd := !l.frameOdd, compared := false }
    let spells (n : Nat) (o : Octet) : Prop := ∀ i : Nat, i < 8 → some (o.getLsbD (7 - i)) = bits[8 * n + i]?
    256 ≤ l.period.length →
      (v.state = .closed → exec (.receiveFrameBoundary c) s = .next (s.setCircuit c { v with line := ended }))
        ∧ (v.state ≠ .closed →
            ∃ frame : List Octet,
              let handed := s.handFrame c frame v.receiveFault
              exec (.receiveFrameBoundary c) s = .next (handed.setCircuit c { handed.circuit c with line := ended })
                ∧ (l.los = true → frame = List.replicate v.layoutD.octetsPerFrame 0xFF)
                ∧ (l.los = false → v.layoutD.mode = .unstructured →
                    frame.length = 32 ∧ ∀ (n : Nat) (o : Octet), frame[n]? = some o → spells n o)
                ∧ (l.los = false → v.layoutD.mode = .structured → l.framer = .aligned →
                    frame.length = v.layoutD.slots.length
                      ∧ ∀ (j n : Nat) (o : Octet), v.layoutD.slots[j]? = some n → n < 32 → frame[j]? = some o → spells n o)
                ∧ (l.los = false → v.layoutD.mode = .structured → l.framer ≠ .aligned →
                    frame = List.replicate v.layoutD.octetsPerFrame 0xFF))

/-- The packetizer takes a frame with its fault mark (R39 to R41), and the DATA packet that completes: its flags, header, body and destination paths
(R42 to R46, R50, R52). -/
def Obligations.FramePacketized : Prop :=
  ∀ (c : CircuitId) (octets : List Octet) (mark : Bool) (s : State),
    let v := s.circuit c
    let k := v.packetizer
    let d := v.layoutD
    let frames := k.accumulator ++ [(octets, mark)]
    (k.running = true → k.collecting = true → frames.length < d.fpp →
        s.handFrame c octets mark = s.setCircuit c { v with packetizer := { k with accumulator := frames } })
      ∧ ((k.running = false ∨ k.collecting = false) →
        s.handFrame c octets mark = s.setCircuit c { v with packetizer := { k with collecting := k.running } })
      ∧ (k.running = true → k.collecting = true → d.fpp ≤ frames.length →
        ∃ l r p : Bool,
          let packet : List Octet :=
            [octet (0x40 + (if l then 8 else 0) + (if r then 4 else 0) + (if p then 2 else 0)), octet (d.localTag / 256 % 16),
             octet (d.localTag % 256), octet (k.txSeq.toNat / 256), octet (k.txSeq.toNat % 256), octet d.fpp]
              ++ (if p then frames.flatMap Prod.fst else [])
          let done := s.setCircuit c { v with packetizer := { k with txSeq := k.txSeq + 1, accumulator := [] } }
          (l = true ↔ ((∃ f ∈ frames, f.2 = true) ∨ v.state = .hold))
            ∧ (r = true ↔ (v.state = .acquiring ∨ v.state = .hold))
            ∧ (p = true ↔ (v.state ≠ .hold ∧ ¬(l = true ∧ v.playoutSet.suppress = true)))
            ∧ (v.pathSet.mode = .dual →
                s.handFrame c octets mark =
                  (done.handPacket .x c .data k.txSeq packet).handPacket .y c .data k.txSeq packet)
            ∧ (v.pathSet.mode = .single →
                s.handFrame c octets mark = done.handPacket v.health.active c .data k.txSeq packet))

/-! ### Playout (chapter 5) and the transmit side (section 2.5) -/

/-- The take of the head slot: its outcome by the slot's state, the counters and runs, the underrun request at the loss threshold, and one bad step
for each path of the receive set that did not deliver, in RUNNING (R86 to R89, R91). That X is judged before Y is the model's choice
(assumption 9), and so is that a second request replaces the number of one that waits (assumption 23). The request notes the Close Circuits that
have reached the circuit table before it (assumption 24). -/
def Obligations.HeadSlotTaken : Prop :=
  ∀ (c : CircuitId) (head : Seq) (s : State),
    let v := s.circuit c
    let u := v.cursor
    let slot := v.slotAt head
    let fpp := BitVec.ofNat 32 v.layoutD.fpp
    let run := min 255 (u.missingRun + 1)
    let bad (π : Path) : List Path :=
      if v.pathSet.receiveSet.get π = true ∧ slot.deliveredBy.get π = false then [π] else []
    let judged (w : Circuit) : State :=
      if v.state = .running then (bad .x ++ bad .y).foldl (fun t π => t.healthStep c π false) (s.setCircuit c w)
      else s.setCircuit c w
    (∀ r : RingSlot, v.ring[head.toNat % 2 ^ v.layoutD.k]? = some r → slot = r)
      ∧ ((u.frameIndex ≠ 0 ∨ u.headTaken = true) → s.takeIfDue c head = s)
      ∧ (u.frameIndex = 0 → u.headTaken = false →
          (slot.kind = .filled →
              s.takeIfDue c head =
                judged { v with cursor := { u with headTaken := true, missingRun := 0, farL := some slot.l } })
            ∧ (slot.kind = .fault →
              s.takeIfDue c head =
                judged { v with
                  cursor := { u with headTaken := true, missingRun := 0, farL := some slot.l },
                  counters := { v.counters with faultFrames := v.counters.faultFrames + fpp } })
            ∧ (slot.kind = .empty → ∃ closes : PerPort Bool,
              (∀ p : Port, closes.get p = true ↔ ∃ limit : Nat, limit ≤ 255 ∧ s.frameAtOwner p 0x11 (closeParams c limit))
              ∧ s.takeIfDue c head =
                judged { v with
                  cursor := { u with headTaken := true, missingRun := run },
                  counters := { v.counters with
                    missing := v.counters.missing + 1, concealed := v.counters.concealed + fpp },
                  requests := { v.requests with
                    underrun :=
                      if v.state = .running ∧ run = v.layoutD.lossThreshold then
                        some ⟨head, (v.requests.underrun.map UnderrunRequest.closesAhead).getD closes⟩
                      else v.requests.underrun } }))

/-- TRANSMIT_FRAME_BOUNDARY: the kind, octets and rate of the frame that begins, the frame given from the head slot, the freeing of the slot with
the last frame, drain complete, and drain remaining (R16, R34, R35, R87 to R90, R100). That the boundary falls at the first unit of local time after
its exact instant, with the remainder of the phase carried on, is assumption 8. That the freed slot has 0 for sequence number, L, R and
first-arrival time is the model's choice (assumption 27), and so is that a circuit whose drain remaining falls to 0 stays in CLOSING until the
expiry is taken (assumption 28). -/
def Obligations.TransmitFrameBoundary : Prop :=
  ∀ (c : CircuitId) (s : State), 1250000000000 ≤ (s.circuit c).line.txPhase →
    let v := s.circuit c
    let ones : List Octet := List.replicate 32 0xFF
    let begun (w : Circuit) (kind : TxKind) (octets : List Octet) : Line :=
      { w.line with
        txOdd := !w.line.txOdd, txKind := kind, txOctets := octets, txRate := if w.state = .closed then 0 else w.timing.c,
        txPhase := w.line.txPhase - 1250000000000 }
    ((v.state = .closed ∨ v.state = .acquiring ∨ v.state = .hold) →
        exec (.transmitFrameBoundary c) s = .next (s.setCircuit c { v with line := begun v .conditioning ones }))
      ∧ (∀ head : Seq, (v.state = .running ∨ v.state = .closing) → v.cursor.head = some head →
          let taken := s.takeIfDue c head
          let w := taken.circuit c
          let u := w.cursor
          let slot := w.slotAt head
          let fill := List.replicate w.layoutD.octetsPerFrame w.playoutSet.fillOctet
          let frame : List Octet :=
            if slot.kind = .filled then slot.payload.getD u.frameIndex []
            else if w.playoutSet.concealment = .fill then fill else u.lastPlayed.getD fill
          let line : Line :=
            if slot.kind = .fault then begun w .conditioning ones
            else begun w .traffic (w.trafficFrame s.ref.alignmentWord (!w.line.txOdd) frame)
          let played := if slot.kind = .filled then some frame else u.lastPlayed
          let filled := if slot.kind = .empty then u.filledCount else u.filledCount - 1
          let after : Circuit :=
            if w.layoutD.fpp ≤ u.frameIndex + 1 then
              { w with
                line := line,
                ring := w.ring.set (head.toNat % 2 ^ w.layoutD.k) .emptySlot,
                cursor := { u with
                  lastPlayed := played, head := some (head + 1), frameIndex := 0, headTaken := false, filledCount := filled,
                  hi := if filled = 0 then none else u.hi },
                requests := { w.requests with
                  drainComplete :=
                    if slot.kind ≠ .empty ∧ filled = 0 ∧ w.state = .closing then true else w.requests.drainComplete } }
            else { w with line := line, cursor := { u with lastPlayed := played, frameIndex := u.frameIndex + 1 } }
          exec (.transmitFrameBoundary c) s =
            .next (taken.setCircuit c
              (if w.state ≠ .closing then after
               else if w.layoutD.fpp ≤ w.drainFrames + 1 then
                { after with drainFrames := 0, drainRemaining := w.drainRemaining - 1 }
               else { after with drainFrames := w.drainFrames + 1 })))

/-- The line slots of a traffic frame: slot 0 by the parity, the carried slots in slot-list order, the fill octet everywhere else; in
UNSTRUCTURED mode the frame as given; and the bits of a frame on TTXD, slot after slot, each most significant bit first (R24, R34, R36, R37).
That bit `k` is sent in the units of local time in which its bit period begins or runs is assumption 8, and that the last bit stays until the
boundary is taken is assumption 22. -/
def Obligations.TrafficFrameSlots : Prop :=
  (∀ (c : CircuitId) (s : State),
    let l := (s.circuit c).line
    (∀ (k : Nat) (o : Octet), k < 256 → k * 4882812500 ≤ l.txPhase → l.txPhase < (k + 1) * 4882812500 →
        l.txOctets[k / 8]? = some o → s.ttxd c = o.getLsbD (7 - k % 8))
      ∧ ∀ o : Octet, 1250000000000 ≤ l.txPhase → l.txOctets[31]? = some o → s.ttxd c = o.getLsbD 0)
  ∧ ∀ (v : Circuit) (word : BitVec 7) (odd : Bool) (frame : List Octet),
    (v.layoutD.mode = .unstructured → v.trafficFrame word odd frame = frame)
      ∧ (v.layoutD.wellFormed = true → v.layoutD.mode = .structured → frame.length = v.layoutD.slots.length →
          let sent := v.trafficFrame word odd frame
          sent.length = 32
            ∧ (∃ o : Octet, sent[0]? = some o ∧ o.getLsbD 7 = true
              ∧ (odd = false → o.setWidth 7 = word)
              ∧ (odd = true → o = if v.receiveFault = true then 0xFF else 0xDF))
            ∧ (∀ (j n : Nat), v.layoutD.slots[j]? = some n → sent[n]? = frame[j]?)
            ∧ (∀ n : Nat, 1 ≤ n → n ≤ 31 → n ∉ v.layoutD.slots → sent[n]? = some v.playoutSet.fillOctet))

/-! ### Paths (chapter 4) -/

/-- A packet handed to a path unit is judged in the order of R59; FRAME_DEPARTURE sends the head entry, stamps an open timestamp, counts it, and
hands a PROBE of a circuit outside CLOSED to the probe unit (R48, R53, R60, R134). Preamble and gap are counted between departures
(assumption 11), from the nanosecond at which the gap before the frame ends; the departure falls in that unit of local time (assumption 8). That
the check octets stand in this order with these bits is assumption 13. -/
def Obligations.PacketQueuedAndSent : Prop :=
  fcs [0x31, 0x32, 0x33, 0x34, 0x35, 0x36, 0x37, 0x38, 0x39] = [0x26, 0x39, 0xF4, 0xCB]
    ∧ (∀ (π : Path) (c : CircuitId) (kind : PacketKind) (number : Seq) (packet : List Octet) (s : State),
        let u := s.pathUnit π
        let v := s.circuit c
        let k := v.cpCounters.get π
        let dropped : State := s.setCircuit c { v with cpCounters := v.cpCounters.set π { k with txDrops := k.txDrops + 1 } }
        (u.typeCode = 0 → s.handPacket π c kind number packet = dropped)
          ∧ (u.typeCode ≠ 0 → u.linkUp = false →
              s.handPacket π c kind number packet = s.setPath π { u with linkDownDrops := u.linkDownDrops + 1 })
          ∧ (u.typeCode ≠ 0 → u.linkUp = true → 64 ≤ u.queue.length → s.handPacket π c kind number packet = dropped)
          ∧ (u.typeCode ≠ 0 → u.linkUp = true → u.queue.length < 64 →
              s.handPacket π c kind number packet =
                s.setPath π { u with
                  queue := u.queue ++
                    [⟨c, kind, number, v.pathSet.destination.get π, u.source, u.typeCode, packet⟩] }))
    ∧ ∀ (π : Path) (e : QueueEntry) (rest : List QueueEntry) (s : State),
        let u := s.pathUnit π
        let v := s.circuit e.circuit
        let k := v.cpCounters.get π
        let stamped := if e.kind = .data then e.packet else e.packet ++ be 4 s.localTime.toNat
        let fields :=
          be 6 e.destination.toNat ++ be 6 e.source.toNat ++ be 2 e.typeCode.toNat ++ stamped
            ++ List.replicate (46 - stamped.length) 0x00
        let frame := fields ++ fcs fields
        let sent (w : Circuit) : State :=
          (s.setPath π { u with
            queue := rest, macFrame := some frame, macBusyNs := u.macBusyNs + frame.length * 80 + 20 * 80 }).setCircuit e.circuit w
        let distinct := (v.probing.outstanding.get π).filter fun o => o.number != e.number
        let list := (if 4 ≤ distinct.length then distinct.drop 1 else distinct) ++ [⟨e.number, s.localTime⟩]
        u.queue = e :: rest → u.linkUp = true → u.macBusyNs < 100 →
          ((e.kind ≠ .probe ∨ v.state = .closed) →
              exec (.frameDeparture π) s =
                .next (sent { v with cpCounters := v.cpCounters.set π { k with sent := k.sent + 1 } }))
            ∧ (e.kind = .probe → v.state ≠ .closed →
              ∃ lost : Nat, lost + list.length = (v.probing.outstanding.get π).length + 1
                ∧ exec (.frameDeparture π) s =
                    .next (sent { v with
                      cpCounters := v.cpCounters.set π
                        { k with sent := k.sent + 1, probesLost := k.probesLost + BitVec.ofNat 32 lost },
                      probing := { v.probing with outstanding := v.probing.outstanding.set π list } }))

/-- Path health and the transmit path: the judgement that moves the active path of a SINGLE circuit outside CLOSED (R68), and one health step with
its status change (R66), with the path codes of their posts. -/
def Obligations.HealthAndTransmitPath : Prop :=
  [Path.x, .y].map pathCode = [0x00, 0x01]
  ∧ ∀ (c : CircuitId) (s : State),
    let v := s.circuit c
    let a := v.health.active
    let moves : Prop :=
      v.pathSet.mode = .single ∧ v.state ≠ .closed ∧ (s.pathUnit a.other).linkUp = true
        ∧ ((s.pathUnit a).linkUp = false ∨ (v.health.degraded.get a = true ∧ v.health.degraded.get a.other = false))
    (moves →
        s.judgeTx c =
          { s.setCircuit c { v with health := { v.health with active := a.other } } with
            attn := s.attnAfter [⟨.circuit c, .txPathChange, BitVec.ofNat 16 (pathCode a.other)⟩] })
      ∧ (¬moves → s.judgeTx c = s)
      ∧ ∀ (π : Path) (good : Bool),
          let old := v.health.count.get π
          let count := if good then min 15 (old + v.pathSet.goodStep) else old - v.pathSet.badStep
          let was := v.health.degraded.get π
          ∃ now : Bool,
            let health : Health :=
              { v.health with count := v.health.count.set π count, degraded := v.health.degraded.set π now }
            (was = false → (now = true ↔ count < v.pathSet.low))
              ∧ (was = true → (now = false ↔ v.pathSet.high ≤ count))
              ∧ (now = was → s.healthStep c π good = s.setCircuit c { v with health := health })
              ∧ (now ≠ was →
                  s.healthStep c π good =
                    ({ s.setCircuit c { v with health := health } with
                        attn := s.attnAfter [⟨.circuit c, .pathHealth,
                          hiLo (pathCode π) ((if health.degraded.x then 1 else 0) + (if health.degraded.y then 2 else 0))⟩] }
                      ).judgeTx c)

/-- LINK_EVENT (R58, R68): a level that is no change does nothing more; UP to DOWN discards the queue as link-down drops; each change posts
PATH_HEALTH from the path, and every SINGLE circuit outside CLOSED is judged: one TX_PATH_CHANGE for each circuit that moves, with the path it
moves to, and none for another. The order of these posts is the model's choice
(assumption 9), and so is that a level equal to the link state only sets the pin (assumption 3); that a loss of link frees the MAC at once is
assumption 11. -/
def Obligations.LinkEventTaken : Prop :=
  ∀ (π : Path) (up : Bool) (s : State),
    let u := s.pathUnit π
    (u.linkUp = up → exec (.linkEvent π up) s = .next (s.setPath π { u with linkPin := up }))
      ∧ (u.linkUp ≠ up →
          ∃ (t : State) (moved : List Event),
            let moves (c : CircuitId) : Prop :=
              let v := s.circuit c
              let a := v.health.active
              v.pathSet.mode = .single ∧ v.state ≠ .closed ∧ (t.pathUnit a.other).linkUp = true
                ∧ ((t.pathUnit a).linkUp = false ∨ (v.health.degraded.get a = true ∧ v.health.degraded.get a.other = false))
            let move (c : CircuitId) : Event :=
              ⟨.circuit c, .txPathChange, BitVec.ofNat 16 (pathCode (s.circuit c).health.active.other)⟩
            exec (.linkEvent π up) s = .next t
            ∧ (up = true → t.pathUnit π = { u with linkPin := true, linkUp := true })
            ∧ (up = false →
                t.pathUnit π =
                  { u with
                    linkPin := false, linkUp := false, queue := [], macFrame := none, macBusyNs := 0,
                    linkDownDrops := u.linkDownDrops + BitVec.ofNat 32 u.queue.length })
            ∧ t.pathUnit π.other = s.pathUnit π.other
            ∧ (∀ c : CircuitId,
                let v := s.circuit c
                (moves c → t.circuit c = { v with health := { v.health with active := v.health.active.other } })
                  ∧ (¬moves c → t.circuit c = v))
            ∧ moved.Nodup ∧ (∀ e : Event, e ∈ moved ↔ ∃ c : CircuitId, moves c ∧ e = move c)
            ∧ t.attn = s.attnAfter (⟨.path π, .pathHealth, if up then 0x0001 else 0x0000⟩ :: moved)
            ∧ t = { s with paths := t.paths, circuits := t.circuits, attn := t.attn })

/-- CONFIGURE_PATH, with the flush of a queue whose path is turned off (R61), and SET_PATHS in every circuit state (R69, R70). -/
def Obligations.PathCommandsServed : Prop :=
  ∀ (p : Port) (s : State),
    (∀ (π : Path) (source : MacAddr) (typeCode : BitVec 16), individual source = true →
        s.frameAtOwner p 0x22 (configurePathParams π source typeCode) →
        let u := s.pathUnit π
        ((u.typeCode = 0 ∨ typeCode ≠ 0) →
            exec (.configurePath p) s =
              .next ((s.setPath π { u with source := source, typeCode := typeCode }).answers p [0x00, 0x00]))
          ∧ (u.typeCode ≠ 0 → typeCode = 0 →
            ∃ t : State, exec (.configurePath p) s = .next (t.answers p [0x00, 0x00])
              ∧ t.pathUnit π = { u with source := source, typeCode := 0, queue := [] }
              ∧ t.pathUnit π.other = s.pathUnit π.other
              ∧ (∀ c : CircuitId,
                  let v := s.circuit c
                  let k := v.cpCounters.get π
                  t.circuit c =
                    { v with
                      cpCounters := v.cpCounters.set π
                        { k with txDrops := k.txDrops + BitVec.ofNat 32 (u.queue.countP fun e => e.circuit = c) } })
              ∧ t = { s with paths := t.paths, circuits := t.circuits }))
      ∧ ∀ (c : CircuitId) (set : PathSettings), set.inRange = true → s.frameAtOwner p 0x15 (setPathsParams c set) →
          let v := s.circuit c
          let enters : Prop := v.state ≠ .closed ∧ v.pathSet.mode = .dual ∧ set.mode = .single
          (¬enters → exec (.setPaths p) s = .next ((s.setCircuit c { v with pathSet := set }).answers p [0x00, 0x00]))
            ∧ (enters →
              exec (.setPaths p) s =
                .next (((s.setCircuit c { v with
                  pathSet := set, health := { v.health with active := set.preferred } }).judgeTx c).answers p [0x00, 0x00]))

/-- FRAME_RECEIVED: the filter of the MAC, and the classification that counts a frame once or hands it on once (R48, R49, R51, R62 to R64). -/
def Obligations.FrameReceivedClassified : Prop :=
  ∀ (π : Path) (octets : List Octet) (s : State),
    let u := s.pathUnit π
    let bad : Prop :=
      octets.length < 64 ∨ 1518 < octets.length ∨ fcs (octets.take (octets.length - 4)) ≠ octets.drop (octets.length - 4)
    let addressed : Prop :=
      u.typeCode ≠ 0 ∧ be 2 u.typeCode.toNat = (octets.drop 12).take 2
        ∧ (be 6 u.source.toNat = octets.take 6 ∨ ∃ o : Octet, octets[0]? = some o ∧ o.getLsbD 0 = true)
    let field := (octets.drop 14).take (octets.length - 18)
    let o0 := field.getD 0 0
    let tag := fromBe ((field.drop 1).take 2) % 4096
    let number := BitVec.ofNat 16 (fromBe ((field.drop 3).take 2))
    let body := field.drop 6
    let formatError : Host.Outcome State Fault Refusal := .next (s.setPath π { u with format := u.format + 1 })
    (bad → exec (.frameReceived π octets) s = .next (s.setPath π { u with frameErrors := u.frameErrors + 1 }))
      ∧ (¬bad → ¬addressed → exec (.frameReceived π octets) s = .next s)
      ∧ (¬bad → addressed → (o0.toNat / 64 ≠ 1 ∨ o0.toNat / 16 % 4 = 3) → exec (.frameReceived π octets) s = formatError)
      ∧ (¬bad → addressed → o0.toNat / 64 = 1 → o0.toNat / 16 % 4 ≠ 3 →
          ((∀ c : CircuitId, (s.circuit c).state ≠ .closed → (s.circuit c).layoutD.remoteTag ≠ tag) →
              exec (.frameReceived π octets) s = .next (s.setPath π { u with unknownTag := u.unknownTag + 1 }))
            ∧ ∀ c : CircuitId, (s.circuit c).state ≠ .closed → (s.circuit c).layoutD.remoteTag = tag →
                (∀ d : CircuitId, (s.circuit d).state ≠ .closed → (s.circuit d).layoutD.remoteTag = tag → d = c) →
                let l := (s.circuit c).layoutD
                let expected := if o0.getLsbD 1 then l.fpp * l.octetsPerFrame else 0
                let fits : Prop :=
                  (field.getD 5 0).toNat = l.fpp ∧ (body.length = expected ∨ (expected < 40 ∧ field.length = 46))
                (o0.toNat / 16 % 4 = 0 → ¬fits → exec (.frameReceived π octets) s = formatError)
                  ∧ (o0.toNat / 16 % 4 = 0 → fits →
                    ∃ frames : List (List Octet),
                      exec (.frameReceived π octets) s =
                          .next (s.dataArrival c π ⟨number, o0.getLsbD 3, o0.getLsbD 2, o0.getLsbD 1, frames⟩)
                        ∧ (o0.getLsbD 1 = false → frames = [])
                        ∧ (o0.getLsbD 1 = true →
                            frames.length = l.fpp ∧ frames.flatten = body.take (l.fpp * l.octetsPerFrame)
                              ∧ ∀ f ∈ frames, f.length = l.octetsPerFrame))
                  ∧ (o0.toNat / 16 % 4 = 1 →
                    exec (.frameReceived π octets) s =
                      .next (s.handPacket π c .echo number
                        ([0x60] ++ be 2 (l.localTag % 4096) ++ be 2 number.toNat ++ [0x00] ++ body.take 4
                          ++ be 4 s.localTime.toNat)))
                  ∧ (o0.toNat / 16 % 4 = 2 →
                    exec (.frameReceived π octets) s =
                      .next (s.echoArrival c π s.localTime number (BitVec.ofNat 32 (fromBe ((body.drop 4).take 4)))
                        (BitVec.ofNat 32 (fromBe ((body.drop 8).take 4))))))

/-! ### Arrivals (chapter 5) -/

/-- The class of an arrival by its offset from head, and the examples of the rule (R76). -/
def Obligations.OffsetClasses : Prop :=
  (∀ (capacity : Nat) (taken : Bool) (head n : Seq), 4 ≤ capacity → capacity ≤ 128 →
    let d := (n.toNat + 65536 - head.toNat) % 65536
    (seqOffset head n = d)
      ∧ ((d < capacity ∧ (0 < d ∨ taken = false)) → classifyOffset capacity taken d = .inWindow)
      ∧ ((d = 0 ∧ taken = true) → classifyOffset capacity taken d = .late)
      ∧ ((capacity ≤ d ∧ d < 32768) → classifyOffset capacity taken d = .early)
      ∧ (32768 ≤ d → classifyOffset capacity taken d = .late))
    ∧ classifyOffset 8 false (seqOffset 65533 65533) = .inWindow ∧ classifyOffset 8 true (seqOffset 65533 65533) = .late
    ∧ ∀ taken : Bool,
        classifyOffset 8 taken (seqOffset 65533 65535) = .inWindow ∧ classifyOffset 8 taken (seqOffset 65533 4) = .inWindow
          ∧ classifyOffset 8 taken (seqOffset 65533 5) = .early ∧ classifyOffset 8 taken (seqOffset 65533 32764) = .early
          ∧ classifyOffset 8 taken (seqOffset 65533 32765) = .late ∧ classifyOffset 8 taken (seqOffset 65533 65532) = .late

/-- A DATA arrival for a circuit outside CLOSED, case by case: discarded, not in the receive set, stored, duplicate, early, late (R76 to R83), and
what a store hands on: the received R, the depth sample in RUNNING, acquisition complete in ACQUIRING (R79, R83, R85, R92). The order of what a
store posts is the model's choice (assumption 9), and so is that a second request replaces the number of one that waits (assumption 23). -/
def Obligations.DataArrivalJudged : Prop :=
  ∀ (c : CircuitId) (π : Path) (a : Arrival) (s : State),
    let v := s.circuit c
    let u := v.cursor
    let k := v.cpCounters.get π
    let l := v.layoutD
    let counted (k' : CpCounters) : Circuit := { v with cpCounters := v.cpCounters.set π k' }
    let stored (head : Seq) (u' : Cursor) : State :=
      ((s.setCircuit c { (counted { k with accepted := k.accepted + 1 }) with
          ring := v.ring.set (a.seq.toNat % 2 ^ l.k)
            ⟨if a.p then .filled else .fault, a.seq, if a.p then a.frames else [], a.l, a.r, ⟨decide (π = .x), decide (π = .y)⟩,
             s.localTime⟩,
          cursor := { u' with
            hi := match u.hi with
              | none => some a.seq
              | some m => if seqOffset head m < seqOffset head a.seq then some a.seq else some m,
            filledCount := u.filledCount + 1, earlyRun := 0 } }).healthStep c π true).judgeR c a.r |>.afterStore c
    ((v.state = .hold ∨ v.state = .closing) → s.dataArrival c π a = s)
      ∧ (v.state ≠ .hold → v.state ≠ .closing → v.pathSet.receiveSet.get π = false →
          s.dataArrival c π a = s.setCircuit c (counted { k with notInReceiveSet := k.notInReceiveSet + 1 }))
      ∧ (v.state = .acquiring → v.pathSet.receiveSet.get π = true → u.head = none →
          s.dataArrival c π a = stored a.seq { u with head := some a.seq, frameIndex := 0, headTaken := false })
      ∧ (∀ head : Seq, (v.state = .acquiring ∨ v.state = .running) → v.pathSet.receiveSet.get π = true → u.head = some head →
          let slot := v.slotAt a.seq
          let class_ := classifyOffset l.capacity u.headTaken (seqOffset head a.seq)
          (class_ = .inWindow → slot.kind = .empty → s.dataArrival c π a = stored head u)
            ∧ (class_ = .inWindow → slot.kind ≠ .empty →
              let first : Prop := slot.deliveredBy.get π = false
              ∃ w : Circuit, s.dataArrival c π a = (s.setCircuit c w).healthStep c π true
                ∧ w = { (counted { k with duplicates := k.duplicates + 1 }) with
                        ring := v.ring.set (a.seq.toNat % 2 ^ l.k) { slot with deliveredBy := slot.deliveredBy.set π true },
                        cursor := { u with mergeSkew := w.cursor.mergeSkew, leadPath := w.cursor.leadPath } }
                ∧ (first → w.cursor.mergeSkew = s.localTime - slot.firstArrival ∧ w.cursor.leadPath = some π.other)
                ∧ (¬first → w.cursor.mergeSkew = u.mergeSkew ∧ w.cursor.leadPath = u.leadPath))
            ∧ (class_ = .early → v.state = .acquiring →
              s.dataArrival c π a = s.setCircuit c (counted { k with early := k.early + 1 }))
            ∧ (class_ = .early → v.state = .running →
              s.dataArrival c π a =
                s.setCircuit c { (counted { k with early := k.early + 1 }) with
                  cursor := { u with earlyRun := min 8 (u.earlyRun + 1) },
                  requests := { v.requests with overrun := if u.earlyRun = 7 then some a.seq else v.requests.overrun } })
            ∧ (class_ = .late → s.dataArrival c π a = s.setCircuit c (counted { k with late := k.late + 1 })))
      ∧ (∀ r : Bool,
          let w : Circuit := { v with cursor := { u with lastR := some r } }
          (u.lastR = some (!r) →
              s.judgeR c r =
                { s.setCircuit c w with attn := s.attnAfter [⟨.circuit c, .remoteFault, if r then 0x0001 else 0x0000⟩] })
            ∧ (u.lastR ≠ some (!r) → s.judgeR c r = s.setCircuit c w))
      ∧ (v.state = .running → s.afterStore c = s.depthSample c (u.span * l.fpp - u.frameIndex))
      ∧ (∀ l' : Layout, v.state = .acquiring → v.layout = some l' →
          (min v.playoutSet.targetDepth (2 ^ l'.k - 1) ≤ u.span →
              s.afterStore c = s.setCircuit c { v with requests := { v.requests with acquisitionComplete := true } })
            ∧ (u.span < min v.playoutSet.targetDepth (2 ^ l'.k - 1) → s.afterStore c = s))
      ∧ (∀ h n : Seq, u.head = some h → u.hi = some n → u.span = (n.toNat + 65537 - h.toNat) % 65536)

/-! ### Transmit timing (chapter 6) and the station reference (chapter 7) -/

/-- A depth sample and the loop update it brings (R102, R104 to R111): the rounding of E16, the truncations of P and the increment, both clamps, the
saturation flags and their post. -/
def Obligations.LoopUpdate : Prop :=
  ∀ (c : CircuitId) (d : Nat) (s : State),
    let v := s.circuit c
    let t := v.timing
    let g := v.timingSet
    let lim : Int := g.lim
    let N : Int := 2 ^ g.m
    let x : Int := 16 * ((t.sum : Int) + d - v.targetFrames * N)
    (∀ l : Layout, v.layout = some l → v.targetFrames = min v.playoutSet.targetDepth (2 ^ l.k - 1) * l.fpp)
      ∧ (¬(v.state = .running ∧ g.mode = .adaptive) → s.depthSample c d = s)
      ∧ (v.state = .running → g.mode = .adaptive → t.n + 1 < 2 ^ g.m →
          s.depthSample c d = s.setCircuit c { v with timing := { t with sum := t.sum + d, n := t.n + 1 } })
      ∧ (v.state = .running → g.mode = .adaptive → 2 ^ g.m ≤ t.n + 1 →
          ∃ e p step : Int,
            let i := max (-lim) (min lim (t.i + step))
            let out := max (-lim) (min lim (p + i))
            let actsI : Bool := decide (i ≠ t.i + step)
            let actsC : Bool := decide (out ≠ p + i)
            let updated : State :=
              s.setCircuit c { v with timing :=
                ⟨out, i, 0, 0, e, p, if actsI then ⟨true, true⟩ else t.integratorSat,
                 if actsC then ⟨true, true⟩ else t.outputSat⟩ }
            let newly : Prop :=
              (actsI = true ∧ t.integratorSat ≠ ⟨true, true⟩) ∨ (actsC = true ∧ t.outputSat ≠ ⟨true, true⟩)
            (2 * (x - e * N).natAbs ≤ N.natAbs ∧ (2 * (x - e * N).natAbs = N.natAbs → x.natAbs < (e * N).natAbs))
              ∧ ((16 * p).natAbs ≤ (e * g.gp).natAbs ∧ (e * g.gp).natAbs < (16 * p).natAbs + 16 ∧ 0 ≤ p * (e * g.gp))
              ∧ ((64 * step).natAbs ≤ (e * g.gi).natAbs ∧ (e * g.gi).natAbs < (64 * step).natAbs + 64
                  ∧ 0 ≤ step * (e * g.gi))
              ∧ (newly →
                  s.depthSample c d =
                    { updated with attn := s.attnAfter [⟨.circuit c, .loopSaturation,
                        BitVec.ofNat 16 ((if actsI then 1 else 0) + (if actsC then 2 else 0))⟩] })
              ∧ (¬newly → s.depthSample c d = updated))

/-- SET_TIMING, effect by effect in the order of the rule (R114 to R116), with the flags and the post of the clamps (R110, R111). -/
def Obligations.SetTimingServed : Prop :=
  ∀ (p : Port) (c : CircuitId) (raw : TimingSettings) (s : State), raw.carried = true →
    s.frameAtOwner p 0x14 (setTimingParams c raw) →
      let v := s.circuit c
      let t := v.timing
      let old := v.timingSet
      let new : TimingSettings := { raw with lim := min 100000 (max 1000 raw.lim) }
      let clamp (x : Int) : Int := max (-(new.lim : Int)) (min new.lim x)
      let i1 := if old.lim = new.lim then t.i else clamp t.i
      let c1 := if old.lim = new.lim then t.c else clamp t.c
      let takes : Bool :=
        decide (old.mode = .adaptive ∧ new.mode = .station ∧ v.state = .running ∧ s.ref.state = .good)
      let c2 := if takes then clamp s.ref.lastOffset else c1
      let zeroes : Bool := decide (old.m ≠ new.m ∨ old.mode ≠ new.mode)
      let actsI : Bool := decide (v.state ≠ .closed ∧ i1 ≠ t.i)
      let actsC : Bool := decide (v.state ≠ .closed ∧ (c1 ≠ t.c ∨ (takes = true ∧ c2 ≠ s.ref.lastOffset)))
      let newly : Prop :=
        (actsI = true ∧ t.integratorSat ≠ ⟨true, true⟩) ∨ (actsC = true ∧ t.outputSat ≠ ⟨true, true⟩)
      let updated : State :=
        s.setCircuit c { v with
          timingSet := new,
          timing := { t with
            c := c2, i := i1, sum := if zeroes then 0 else t.sum, n := if zeroes then 0 else t.n,
            integratorSat := if actsI then ⟨true, true⟩ else t.integratorSat,
            outputSat := if actsC then ⟨true, true⟩ else t.outputSat } }
      (newly →
          exec (.setTiming p) s =
            .next ({ updated with attn := s.attnAfter [⟨.circuit c, .loopSaturation,
              BitVec.ofNat 16 ((if actsI then 1 else 0) + (if actsC then 2 else 0))⟩] }.answers p [0x00, 0x00]))
        ∧ (¬newly → exec (.setTiming p) s = .next (updated.answers p [0x00, 0x00]))

/-- SET_PLAYOUT (R96), SET_PROBING (R131, R141) and CONFIGURE_REFERENCE (R127) with values in range. That Set Probing judges X before Y and
DELAY_LIMIT before ASYMMETRY is the model's choice (assumption 9). -/
def Obligations.SettingsStored : Prop :=
  ∀ (p : Port) (s : State),
    (∀ (c : CircuitId) (new : PlayoutSettings), new.inRange = true → s.frameAtOwner p 0x17 (setPlayoutParams c new) →
        exec (.setPlayout p) s = .next ((s.setCircuit c { s.circuit c with playoutSet := new }).answers p [0x00, 0x00]))
      ∧ (∀ (c : CircuitId) (new : ProbeSettings), new.inRange = true → s.frameAtOwner p 0x16 (setProbingParams c new) →
        let v := s.circuit c
        let timer : Option Time :=
          if v.probeSet.interval = new.interval then v.probing.timer
          else if new.interval = 0 then none
          else some s.localTime
        (v.state = .closed →
            exec (.setProbing p) s = .next ((s.setCircuit c { v with probeSet := new }).answers p [0x00, 0x00]))
          ∧ (v.state ≠ .closed →
            exec (.setProbing p) s =
              .next (((((s.setCircuit c { v with probeSet := new, probing := { v.probing with timer := timer } }).judgeDelay c .x
                ).judgeDelay c .y).judgeAsymmetry c).answers p [0x00, 0x00])))
      ∧ (∀ (tolerance q : Nat) (word : BitVec 7), within 1 255 tolerance = true → within 1 15 q = true →
        s.frameAtOwner p 0x20 (configureReferenceParams tolerance q word) →
        exec (.configureReference p) s =
          .next ({ s with ref := { s.ref with toleranceStored := tolerance, qStored := q, alignmentWord := word } }.answers p
            [0x00, 0x00]))

/-- Rising edges of REF, window completions with the monitor's next state and the offset handed to every circuit that is RUNNING in STATION mode, and
absence expiry (R113, R121 to R127). REFERENCE_STATE before LOOP_SATURATION is the model's choice (assumption 9). That REFERENCE_WINDOW_START and
REF_EDGE are one and the same edge is assumption 14, and that a late edge completes the window first is assumption 6. That no edge count is held without
a window is the model's choice (assumption 30). -/
def Obligations.ReferenceMonitored : Prop :=
  ∀ s : State,
    let r := s.ref
    (∀ i : Instr, (i = .referenceWindowStart ∨ i = .refEdge) →
        (r.window = none →
            exec i s =
              .next { s with ref := { r with
                window := some ⟨s.localTime, 1⟩, absenceTimer := some s.localTime, toleranceInUse := r.toleranceStored,
                qInUse := r.qStored } })
          ∧ ∀ w : RefWindow, r.window = some w →
              ((s.localTime - w.start).toNat < 10000000 →
                  exec i s =
                    .next { s with ref := { r with
                      window := some ⟨w.start, min 4294967295 (w.edges + 1)⟩, absenceTimer := some s.localTime } })
                ∧ (10000000 ≤ (s.localTime - w.start).toNat →
                  ∃ t : State, exec .referenceWindowCompletion s = .next t
                    ∧ exec i s =
                        .next { t with ref := { t.ref with
                          window := some ⟨w.start + 10000000, 1⟩, absenceTimer := some s.localTime } }))
      ∧ (∀ w : RefWindow, r.window = some w → 10000000 ≤ (s.localTime - w.start).toNat →
          let deviation : Int := (w.edges : Int) - 2048000
          let inside : Bool := decide (deviation.natAbs ≤ r.toleranceInUse)
          let x : Int := deviation * 15625
          ∃ (t : State) (state : RefState) (qual : Nat) (offset : Int) (sat : List Event),
            exec .referenceWindowCompletion s = .next t
              ∧ (inside = false → state = .outOfRange ∧ qual = 0)
              ∧ (inside = true → r.state = .good → state = .good ∧ qual = r.qualCount)
              ∧ (inside = true → r.state ≠ .good →
                  qual = (if r.state = .qualifying then r.qualCount + 1 else 1)
                    ∧ (r.qInUse ≤ qual → state = .good) ∧ (qual < r.qInUse → state = .qualifying))
              ∧ (2 * (x - offset * 32).natAbs ≤ 32 ∧ (2 * (x - offset * 32).natAbs = 32 → x.natAbs < (offset * 32).natAbs))
              ∧ t.ref =
                  { r with
                    state := state, qualCount := qual, lastCount := w.edges, lastInRange := some inside,
                    lastOffset := if state = .good then offset else r.lastOffset,
                    offsetValid := r.offsetValid || decide (state = .good),
                    window := some ⟨w.start + 10000000, 0⟩, toleranceInUse := r.toleranceStored, qInUse := r.qStored }
              ∧ (∀ c : CircuitId,
                  let v := s.circuit c
                  let lim : Int := v.timingSet.lim
                  let value := max (-lim) (min lim offset)
                  let takes : Prop := state = .good ∧ v.state = .running ∧ v.timingSet.mode = .station
                  (¬takes → t.circuit c = v)
                    ∧ (takes → value = offset → t.circuit c = { v with timing := { v.timing with c := value } })
                    ∧ (takes → value ≠ offset →
                        t.circuit c = { v with timing := { v.timing with c := value, outputSat := ⟨true, true⟩ } })
                    ∧ (⟨.circuit c, .loopSaturation, 0x0002⟩ ∈ sat
                        ↔ (takes ∧ value ≠ offset ∧ v.timing.outputSat ≠ ⟨true, true⟩)))
              ∧ sat.Nodup ∧ (∀ e ∈ sat, ∃ c : CircuitId, e = ⟨.circuit c, .loopSaturation, 0x0002⟩)
              ∧ t.attn =
                  s.attnAfter ((if state = r.state then [] else
                    [⟨.reference, .referenceState, hiLo (refCode r.state) (refCode state)⟩]) ++ sat)
              ∧ t = { s with ref := t.ref, circuits := t.circuits, attn := t.attn })
      ∧ (∀ start : Time, r.absenceTimer = some start → 100 ≤ (s.localTime - start).toNat →
          ∃ t : State, exec .absenceExpiry s = .next t
            ∧ t = { s with
                    ref := { r with state := .absent, window := none, qualCount := 0, absenceTimer := none }, attn := t.attn }
            ∧ (r.state = .absent → t.attn = s.attn)
            ∧ (r.state ≠ .absent →
                t.attn = s.attnAfter [⟨.reference, .referenceState, hiLo (refCode r.state) 0x00⟩]))

/-! ### Probing and delay (chapter 8) -/

/-- PROBE_TIMER_EXPIRY: both paths are judged, in an order that is left free (assumption 5), and the timer restarts; a path is passed over,
postponed, or handed a PROBE with the next number (R131 to R133, R50). -/
def Obligations.ProbeTimerExpires : Prop :=
  (∀ (c : CircuitId) (start : Time) (s : State),
    let v := s.circuit c
    v.probing.timer = some start → v.state ≠ .closed → v.probeSet.interval ≠ 0 →
      v.probeSet.interval * 100000 ≤ (s.localTime - start).toNat →
      let restarted := s.setCircuit c { v with probing := { v.probing with timer := some s.localTime } }
      ∃ t : State, exec (.probeTimerExpiry c) s = .next { t with freeCount := t.freeCount + 1 }
        ∧ (t = probeDue c (probeDue c restarted .x) .y ∨ t = probeDue c (probeDue c restarted .y) .x))
    ∧ ∀ (c : CircuitId) (π : Path) (s : State),
        let v := s.circuit c
        let b := v.probing
        let u := s.pathUnit π
        (u.linkUp = false → probeDue c s π = s)
          ∧ (u.linkUp = true → 32 ≤ u.queue.length → b.postponed.get π < 8 →
              probeDue c s π =
                s.setCircuit c { v with probing :=
                  { b with postponed := b.postponed.set π (b.postponed.get π + 1) } })
          ∧ (u.linkUp = true → (u.queue.length < 32 ∨ 8 ≤ b.postponed.get π) →
              probeDue c s π =
                (s.setCircuit c { v with probing :=
                  { b with number := b.number + 1, postponed := b.postponed.set π 0 } }).handPacket π c .probe b.number
                    ([0x50] ++ be 2 (v.layoutD.localTag % 4096) ++ be 2 b.number.toNat ++ [0x00]))

/-- An ECHO is stale, or is matched with every older entry lost, and gives a sample or is implausible (R136, R137). A sample enters the delay record
and both alarms are judged (R138 to R140), DELAY_LIMIT before ASYMMETRY by the model's choice (assumption 9). -/
def Obligations.EchoAndDelay : Prop :=
  ∀ (c : CircuitId) (π : Path) (s : State),
    let v := s.circuit c
    let b := v.probing
    let k := v.cpCounters.get π
    let r := b.record.get π
    let smallest (old : Option Nat) (sample : Nat) : Option Nat := some (min (old.getD sample) sample)
    (∀ (number : Seq) (t2 t3 t4 : Time),
        ((∀ e ∈ b.outstanding.get π, e.number ≠ number) →
            s.echoArrival c π t4 number t2 t3 =
              s.setCircuit c { v with cpCounters := v.cpCounters.set π { k with echoesStale := k.echoesStale + 1 } })
          ∧ ∀ (older newer : List Outstanding) (t1 : Time),
              b.outstanding.get π = older ++ ⟨number, t1⟩ :: newer → (∀ e ∈ older, e.number ≠ number) →
              let trip : Int := ((t4 - t1).toNat : Int) - ((t3 - t2).toNat : Int)
              let matched (k' : CpCounters) : State :=
                s.setCircuit c { v with
                  cpCounters := v.cpCounters.set π { k' with probesLost := k.probesLost + BitVec.ofNat 32 older.length },
                  probing := { b with outstanding := b.outstanding.set π newer } }
              ((0 ≤ trip ∧ trip ≤ 10000000) →
                  s.echoArrival c π t4 number t2 t3 = (matched k).delaySample c π trip.toNat)
                ∧ ((trip < 0 ∨ 10000000 < trip) →
                  s.echoArrival c π t4 number t2 t3 =
                    matched { k with echoesImplausible := k.echoesImplausible + 1 }))
      ∧ (∀ sample : Nat,
          let smoothed : Nat :=
            match r.smoothed with
            | none => sample
            | some old => if old ≤ sample then old + (sample - old) / 8 else old - (old - sample) / 8
          s.delaySample c π sample =
            ((s.setCircuit c { v with probing := { b with
                record := b.record.set π
                  ⟨sample, ⟨smallest r.minimum.cp0 sample, smallest r.minimum.cp1 sample⟩, some smoothed,
                   min 65535 (r.sampleCount + 1), r.alarm⟩ } }).judgeDelay c π).judgeAsymmetry c)
      ∧ (r.smoothed = none → s.judgeDelay c π = s)
      ∧ (∀ value : Nat, r.smoothed = some value →
          ∃ now : Bool,
            let record := b.record.set π { r with alarm := now }
            (r.alarm = false → (now = true ↔ v.probeSet.delayLimit < value))
              ∧ (r.alarm = true → (now = false ↔ value ≤ v.probeSet.delayLimit * 7 / 8))
              ∧ (now = r.alarm → s.judgeDelay c π = s)
              ∧ (now ≠ r.alarm →
                  s.judgeDelay c π =
                    { s.setCircuit c { v with probing := { b with record := record } } with
                      attn := s.attnAfter [⟨.circuit c, .delayLimit,
                        hiLo (pathCode π) ((if record.x.alarm then 1 else 0) + (if record.y.alarm then 2 else 0))⟩] }))
      ∧ ((b.record.x.smoothed = none ∨ b.record.y.smoothed = none) → s.judgeAsymmetry c = s)
      ∧ (∀ x y : Nat, b.record.x.smoothed = some x → b.record.y.smoothed = some y →
          ∃ now : Bool,
            (b.asymmetryAlarm = false → (now = true ↔ v.probeSet.asymmetryLimit < ((x : Int) - y).natAbs))
              ∧ (b.asymmetryAlarm = true → (now = false ↔ ((x : Int) - y).natAbs ≤ v.probeSet.asymmetryLimit * 7 / 8))
              ∧ (now = b.asymmetryAlarm → s.judgeAsymmetry c = s)
              ∧ (now ≠ b.asymmetryAlarm →
                  s.judgeAsymmetry c =
                    { s.setCircuit c { v with probing := { b with asymmetryAlarm := now } } with
                      attn := s.attnAfter [⟨.circuit c, .asymmetry,
                        BitVec.ofNat 16 ((if now then 1 else 0) + (if x < y then 0x100 else 0))⟩] }))

/-! ### The whole part -/

/-- Every invariant of the part holds right after device reset, whatever the levels of LINKX and LINKY. -/
def Obligations.InvariantsHoldAtReset : Prop :=
  State.reset = State.resetWith ⟨false, false⟩
    ∧ ∀ links : PerPath Bool,
        let s := State.resetWith links
        PoolSound s ∧ LayoutsSound s ∧ AttentionSound s ∧ AuthoritySound s ∧ SupervisionSound s ∧ ExchangeSound s
          ∧ QueuesSound s ∧ HealthSound s ∧ ProbesSound s ∧ TimingSound s ∧ RingsSound s
          ∧ LinesSound s

/-- Every step keeps the buffer pool whole and the layouts and remote tags of the open circuits sound (R1, R10, R13). -/
def Obligations.EveryStepKeepsTheTable : Prop :=
  ∀ s t : State, step s = .next t →
    (PoolSound s → PoolSound t) ∧ (LayoutsSound s → LayoutsSound t)

/-- Every step keeps the controller side sound: attention queues, authority with an eligible holder, the supervision units, and the exchange of
commands and results at each port (R147 to R152, R155 to R169). -/
def Obligations.EveryStepKeepsTheControllerSide : Prop :=
  ∀ s t : State, step s = .next t →
    (AttentionSound s → AttentionSound t) ∧ (AuthoritySound s → AuthoritySound t)
      ∧ (SupervisionSound s → SupervisionSound t) ∧ (ExchangeSound s → ExchangeSound t)

/-- Every step keeps the network side and the lines sound: transmit queues, health counts, probe lists and delay records, I and C within the limit,
and at each line the framer's place in the bits received and the counts of LOS and AIS (R25 to R31, R58, R59, R66, R69, R101, R132 to R138).
That a count of LOS which is not kept is 0 is the model's choice (assumption 29). -/
def Obligations.EveryStepKeepsTheNetworkSide : Prop :=
  ∀ s t : State, step s = .next t →
    (QueuesSound s → QueuesSound t) ∧ (HealthSound s → HealthSound t) ∧ (ProbesSound s → ProbesSound t)
      ∧ (TimingSound s → TimingSound t) ∧ (LinesSound s → LinesSound t)

/-- Every step keeps every playout ring sound: each stored packet stands at its number's place and within the window ahead of head, the filled count
counts them, and hi is the furthest (R74 to R77, R90, R92). -/
def Obligations.EveryStepKeepsTheRings : Prop := ∀ s t : State, step s = .next t → RingsSound s → RingsSound t

/-- Who changes what: a supervision unit only its own port's supervision commands and timers, the settings only their own commands, the alignment
word only Configure Reference, a path's addresses only Configure Path, and the holder only the two authority commands and an event that costs the
holder its eligibility; device reset may change all of them. No other command of the part does (R2, R24, R57, R154, R156, R166, R167). That a command changes neither
local time nor the queue of commands is the model's choice (assumption 1). -/
def Obligations.OwnersAloneChangeTheirState : Prop :=
  ∀ (i : Instr) (s t : State), exec i s = .next t → i ≠ .deviceReset →
    (∀ p : Port,
        i ∉ [Instr.fetchChallenge p, .submitAnswer p, .readSupervision p, .configureSupervision p, .windowTimerExpiry p,
          .crstTimerExpiry p] → t.supUnit p = s.supUnit p)
      ∧ (∀ c : CircuitId,
          ((∀ p : Port, i ≠ .setPlayout p) → (t.circuit c).playoutSet = (s.circuit c).playoutSet)
            ∧ ((∀ p : Port, i ≠ .setTiming p) → (t.circuit c).timingSet = (s.circuit c).timingSet)
            ∧ ((∀ p : Port, i ≠ .setPaths p) → (t.circuit c).pathSet = (s.circuit c).pathSet)
            ∧ ((∀ p : Port, i ≠ .setProbing p) → (t.circuit c).probeSet = (s.circuit c).probeSet)
            ∧ ((∀ p : Port, i ≠ .openCircuit p) → (t.circuit c).layout = (s.circuit c).layout))
      ∧ ((∀ p : Port, i ≠ .configureReference p) →
          t.ref.alignmentWord = s.ref.alignmentWord ∧ t.ref.toleranceStored = s.ref.toleranceStored
            ∧ t.ref.qStored = s.ref.qStored)
      ∧ ((∀ p : Port, i ≠ .configurePath p) →
          ∀ π : Path, (t.pathUnit π).source = (s.pathUnit π).source ∧ (t.pathUnit π).typeCode = (s.pathUnit π).typeCode)
      ∧ (t.holder ≠ s.holder →
          (∃ p : Port, i = .takeAuthority p ∧ s.holder = none ∧ t.holder = some p)
            ∨ (∃ p : Port, i = .yieldAuthority p ∧ s.holder = some p)
            ∨ (∃ p : Port,
                i ∈ [Instr.fetchChallenge p, .submitAnswer p, .configureSupervision p, .windowTimerExpiry p]
                  ∧ s.holder = some p ∧ (s.supUnit p).eligible = true ∧ (t.supUnit p).eligible = false))
      ∧ t.localTime = s.localTime ∧ t.pending = s.pending
end

