-- ==== Sys2Proof/Laws/State.lean ====
section
/-! SUPPORT. What each update of the state leaves in each field: one lemma per field per update, true by unfolding once, so that no
later proof unfolds a record update. -/

namespace Sys2Proof

variable {α : Type}

@[simp] theorem Port.other_ne (p : Port) : p.other ≠ p := by cases p <;> decide

@[simp] theorem Path.other_ne (π : Path) : π.other ≠ π := by cases π <;> decide

@[simp] theorem PerPort.get_set_self (v : PerPort α) (p : Port) (a : α) : (v.set p a).get p = a := by cases p <;> rfl

theorem PerPort.get_set_ne (v : PerPort α) {p q : Port} (a : α) (h : q ≠ p) : (v.set p a).get q = v.get q := by
  cases p <;> cases q <;> first | rfl | exact absurd rfl h

@[simp] theorem PerPort.set_get_self (v : PerPort α) (p : Port) : v.set p (v.get p) = v := by cases p <;> rfl

@[simp] theorem PerPort.set_set (v : PerPort α) (p : Port) (a b : α) : (v.set p a).set p b = v.set p b := by cases p <;> rfl

@[simp] theorem PerPath.get_set_self (v : PerPath α) (π : Path) (a : α) : (v.set π a).get π = a := by cases π <;> rfl

theorem PerPath.get_set_ne (v : PerPath α) {π ρ : Path} (a : α) (h : ρ ≠ π) : (v.set π a).get ρ = v.get ρ := by
  cases π <;> cases ρ <;> first | rfl | exact absurd rfl h

@[simp] theorem PerPath.set_get_self (v : PerPath α) (π : Path) : v.set π (v.get π) = v := by cases π <;> rfl

@[simp] theorem PerPath.set_set (v : PerPath α) (π : Path) (a b : α) : (v.set π a).set π b = v.set π b := by cases π <;> rfl

end Sys2Proof

namespace Sys2Proof.Machine

/-! ### `setCircuit` -/

@[simp] theorem State.setCircuit_localTime (s : State) (c : CircuitId) (v : Circuit) : (s.setCircuit c v).localTime = s.localTime := rfl

@[simp] theorem State.setCircuit_resetAsserted (s : State) (c : CircuitId) (v : Circuit) : (s.setCircuit c v).resetAsserted = s.resetAsserted := rfl

@[simp] theorem State.setCircuit_startUpFrom (s : State) (c : CircuitId) (v : Circuit) : (s.setCircuit c v).startUpFrom = s.startUpFrom := rfl

@[simp] theorem State.setCircuit_ports (s : State) (c : CircuitId) (v : Circuit) : (s.setCircuit c v).ports = s.ports := rfl

@[simp] theorem State.setCircuit_transit (s : State) (c : CircuitId) (v : Circuit) : (s.setCircuit c v).transit = s.transit := rfl

@[simp] theorem State.setCircuit_sup (s : State) (c : CircuitId) (v : Circuit) : (s.setCircuit c v).sup = s.sup := rfl

@[simp] theorem State.setCircuit_holder (s : State) (c : CircuitId) (v : Circuit) : (s.setCircuit c v).holder = s.holder := rfl

@[simp] theorem State.setCircuit_attn (s : State) (c : CircuitId) (v : Circuit) : (s.setCircuit c v).attn = s.attn := rfl

@[simp] theorem State.setCircuit_freeBlocks (s : State) (c : CircuitId) (v : Circuit) : (s.setCircuit c v).freeBlocks = s.freeBlocks := rfl

@[simp] theorem State.setCircuit_paths (s : State) (c : CircuitId) (v : Circuit) : (s.setCircuit c v).paths = s.paths := rfl

@[simp] theorem State.setCircuit_ref (s : State) (c : CircuitId) (v : Circuit) : (s.setCircuit c v).ref = s.ref := rfl

@[simp] theorem State.setCircuit_freeCount (s : State) (c : CircuitId) (v : Circuit) : (s.setCircuit c v).freeCount = s.freeCount := rfl

@[simp] theorem State.setCircuit_pending (s : State) (c : CircuitId) (v : Circuit) : (s.setCircuit c v).pending = s.pending := rfl

@[simp] theorem State.setCircuit_port (s : State) (c : CircuitId) (v : Circuit) (q : Port) : (s.setCircuit c v).port q = s.port q := rfl

@[simp] theorem State.setCircuit_supUnit (s : State) (c : CircuitId) (v : Circuit) (q : Port) : (s.setCircuit c v).supUnit q = s.supUnit q := rfl

@[simp] theorem State.setCircuit_attnUnit (s : State) (c : CircuitId) (v : Circuit) (q : Port) : (s.setCircuit c v).attnUnit q = s.attnUnit q := rfl

@[simp] theorem State.setCircuit_pathUnit (s : State) (c : CircuitId) (v : Circuit) (ρ : Path) : (s.setCircuit c v).pathUnit ρ = s.pathUnit ρ := rfl

/-! ### `setPort` -/

@[simp] theorem State.setPort_localTime (s : State) (p : Port) (v : PortUnit) : (s.setPort p v).localTime = s.localTime := rfl

@[simp] theorem State.setPort_resetAsserted (s : State) (p : Port) (v : PortUnit) : (s.setPort p v).resetAsserted = s.resetAsserted := rfl

@[simp] theorem State.setPort_startUpFrom (s : State) (p : Port) (v : PortUnit) : (s.setPort p v).startUpFrom = s.startUpFrom := rfl

@[simp] theorem State.setPort_transit (s : State) (p : Port) (v : PortUnit) : (s.setPort p v).transit = s.transit := rfl

@[simp] theorem State.setPort_sup (s : State) (p : Port) (v : PortUnit) : (s.setPort p v).sup = s.sup := rfl

@[simp] theorem State.setPort_holder (s : State) (p : Port) (v : PortUnit) : (s.setPort p v).holder = s.holder := rfl

@[simp] theorem State.setPort_attn (s : State) (p : Port) (v : PortUnit) : (s.setPort p v).attn = s.attn := rfl

@[simp] theorem State.setPort_freeBlocks (s : State) (p : Port) (v : PortUnit) : (s.setPort p v).freeBlocks = s.freeBlocks := rfl

@[simp] theorem State.setPort_circuits (s : State) (p : Port) (v : PortUnit) : (s.setPort p v).circuits = s.circuits := rfl

@[simp] theorem State.setPort_paths (s : State) (p : Port) (v : PortUnit) : (s.setPort p v).paths = s.paths := rfl

@[simp] theorem State.setPort_ref (s : State) (p : Port) (v : PortUnit) : (s.setPort p v).ref = s.ref := rfl

@[simp] theorem State.setPort_freeCount (s : State) (p : Port) (v : PortUnit) : (s.setPort p v).freeCount = s.freeCount := rfl

@[simp] theorem State.setPort_pending (s : State) (p : Port) (v : PortUnit) : (s.setPort p v).pending = s.pending := rfl

@[simp] theorem State.setPort_circuit (s : State) (p : Port) (v : PortUnit) (d : CircuitId) : (s.setPort p v).circuit d = s.circuit d := rfl

@[simp] theorem State.setPort_supUnit (s : State) (p : Port) (v : PortUnit) (q : Port) : (s.setPort p v).supUnit q = s.supUnit q := rfl

@[simp] theorem State.setPort_attnUnit (s : State) (p : Port) (v : PortUnit) (q : Port) : (s.setPort p v).attnUnit q = s.attnUnit q := rfl

@[simp] theorem State.setPort_pathUnit (s : State) (p : Port) (v : PortUnit) (ρ : Path) : (s.setPort p v).pathUnit ρ = s.pathUnit ρ := rfl

/-! ### `setSup` -/

@[simp] theorem State.setSup_localTime (s : State) (p : Port) (v : SupUnit) : (s.setSup p v).localTime = s.localTime := rfl

@[simp] theorem State.setSup_resetAsserted (s : State) (p : Port) (v : SupUnit) : (s.setSup p v).resetAsserted = s.resetAsserted := rfl

@[simp] theorem State.setSup_startUpFrom (s : State) (p : Port) (v : SupUnit) : (s.setSup p v).startUpFrom = s.startUpFrom := rfl

@[simp] theorem State.setSup_ports (s : State) (p : Port) (v : SupUnit) : (s.setSup p v).ports = s.ports := rfl

@[simp] theorem State.setSup_transit (s : State) (p : Port) (v : SupUnit) : (s.setSup p v).transit = s.transit := rfl

@[simp] theorem State.setSup_holder (s : State) (p : Port) (v : SupUnit) : (s.setSup p v).holder = s.holder := rfl

@[simp] theorem State.setSup_attn (s : State) (p : Port) (v : SupUnit) : (s.setSup p v).attn = s.attn := rfl

@[simp] theorem State.setSup_freeBlocks (s : State) (p : Port) (v : SupUnit) : (s.setSup p v).freeBlocks = s.freeBlocks := rfl

@[simp] theorem State.setSup_circuits (s : State) (p : Port) (v : SupUnit) : (s.setSup p v).circuits = s.circuits := rfl

@[simp] theorem State.setSup_paths (s : State) (p : Port) (v : SupUnit) : (s.setSup p v).paths = s.paths := rfl

@[simp] theorem State.setSup_ref (s : State) (p : Port) (v : SupUnit) : (s.setSup p v).ref = s.ref := rfl

@[simp] theorem State.setSup_freeCount (s : State) (p : Port) (v : SupUnit) : (s.setSup p v).freeCount = s.freeCount := rfl

@[simp] theorem State.setSup_pending (s : State) (p : Port) (v : SupUnit) : (s.setSup p v).pending = s.pending := rfl

@[simp] theorem State.setSup_circuit (s : State) (p : Port) (v : SupUnit) (d : CircuitId) : (s.setSup p v).circuit d = s.circuit d := rfl

@[simp] theorem State.setSup_port (s : State) (p : Port) (v : SupUnit) (q : Port) : (s.setSup p v).port q = s.port q := rfl

@[simp] theorem State.setSup_attnUnit (s : State) (p : Port) (v : SupUnit) (q : Port) : (s.setSup p v).attnUnit q = s.attnUnit q := rfl

@[simp] theorem State.setSup_pathUnit (s : State) (p : Port) (v : SupUnit) (ρ : Path) : (s.setSup p v).pathUnit ρ = s.pathUnit ρ := rfl

/-! ### `setAttn` -/

@[simp] theorem State.setAttn_localTime (s : State) (p : Port) (v : AttnUnit) : (s.setAttn p v).localTime = s.localTime := rfl

@[simp] theorem State.setAttn_resetAsserted (s : State) (p : Port) (v : AttnUnit) : (s.setAttn p v).resetAsserted = s.resetAsserted := rfl

@[simp] theorem State.setAttn_startUpFrom (s : State) (p : Port) (v : AttnUnit) : (s.setAttn p v).startUpFrom = s.startUpFrom := rfl

@[simp] theorem State.setAttn_ports (s : State) (p : Port) (v : AttnUnit) : (s.setAttn p v).ports = s.ports := rfl

@[simp] theorem State.setAttn_transit (s : State) (p : Port) (v : AttnUnit) : (s.setAttn p v).transit = s.transit := rfl

@[simp] theorem State.setAttn_sup (s : State) (p : Port) (v : AttnUnit) : (s.setAttn p v).sup = s.sup := rfl

@[simp] theorem State.setAttn_holder (s : State) (p : Port) (v : AttnUnit) : (s.setAttn p v).holder = s.holder := rfl

@[simp] theorem State.setAttn_freeBlocks (s : State) (p : Port) (v : AttnUnit) : (s.setAttn p v).freeBlocks = s.freeBlocks := rfl

@[simp] theorem State.setAttn_circuits (s : State) (p : Port) (v : AttnUnit) : (s.setAttn p v).circuits = s.circuits := rfl

@[simp] theorem State.setAttn_paths (s : State) (p : Port) (v : AttnUnit) : (s.setAttn p v).paths = s.paths := rfl

@[simp] theorem State.setAttn_ref (s : State) (p : Port) (v : AttnUnit) : (s.setAttn p v).ref = s.ref := rfl

@[simp] theorem State.setAttn_freeCount (s : State) (p : Port) (v : AttnUnit) : (s.setAttn p v).freeCount = s.freeCount := rfl

@[simp] theorem State.setAttn_pending (s : State) (p : Port) (v : AttnUnit) : (s.setAttn p v).pending = s.pending := rfl

@[simp] theorem State.setAttn_circuit (s : State) (p : Port) (v : AttnUnit) (d : CircuitId) : (s.setAttn p v).circuit d = s.circuit d := rfl

@[simp] theorem State.setAttn_port (s : State) (p : Port) (v : AttnUnit) (q : Port) : (s.setAttn p v).port q = s.port q := rfl

@[simp] theorem State.setAttn_supUnit (s : State) (p : Port) (v : AttnUnit) (q : Port) : (s.setAttn p v).supUnit q = s.supUnit q := rfl

@[simp] theorem State.setAttn_pathUnit (s : State) (p : Port) (v : AttnUnit) (ρ : Path) : (s.setAttn p v).pathUnit ρ = s.pathUnit ρ := rfl

/-! ### `setPath` -/

@[simp] theorem State.setPath_localTime (s : State) (π : Path) (v : PathUnit) : (s.setPath π v).localTime = s.localTime := rfl

@[simp] theorem State.setPath_resetAsserted (s : State) (π : Path) (v : PathUnit) : (s.setPath π v).resetAsserted = s.resetAsserted := rfl

@[simp] theorem State.setPath_startUpFrom (s : State) (π : Path) (v : PathUnit) : (s.setPath π v).startUpFrom = s.startUpFrom := rfl

@[simp] theorem State.setPath_ports (s : State) (π : Path) (v : PathUnit) : (s.setPath π v).ports = s.ports := rfl

@[simp] theorem State.setPath_transit (s : State) (π : Path) (v : PathUnit) : (s.setPath π v).transit = s.transit := rfl

@[simp] theorem State.setPath_sup (s : State) (π : Path) (v : PathUnit) : (s.setPath π v).sup = s.sup := rfl

@[simp] theorem State.setPath_holder (s : State) (π : Path) (v : PathUnit) : (s.setPath π v).holder = s.holder := rfl

@[simp] theorem State.setPath_attn (s : State) (π : Path) (v : PathUnit) : (s.setPath π v).attn = s.attn := rfl

@[simp] theorem State.setPath_freeBlocks (s : State) (π : Path) (v : PathUnit) : (s.setPath π v).freeBlocks = s.freeBlocks := rfl

@[simp] theorem State.setPath_circuits (s : State) (π : Path) (v : PathUnit) : (s.setPath π v).circuits = s.circuits := rfl

@[simp] theorem State.setPath_ref (s : State) (π : Path) (v : PathUnit) : (s.setPath π v).ref = s.ref := rfl

@[simp] theorem State.setPath_freeCount (s : State) (π : Path) (v : PathUnit) : (s.setPath π v).freeCount = s.freeCount := rfl

@[simp] theorem State.setPath_pending (s : State) (π : Path) (v : PathUnit) : (s.setPath π v).pending = s.pending := rfl

@[simp] theorem State.setPath_circuit (s : State) (π : Path) (v : PathUnit) (d : CircuitId) : (s.setPath π v).circuit d = s.circuit d := rfl

@[simp] theorem State.setPath_port (s : State) (π : Path) (v : PathUnit) (q : Port) : (s.setPath π v).port q = s.port q := rfl

@[simp] theorem State.setPath_supUnit (s : State) (π : Path) (v : PathUnit) (q : Port) : (s.setPath π v).supUnit q = s.supUnit q := rfl

@[simp] theorem State.setPath_attnUnit (s : State) (π : Path) (v : PathUnit) (q : Port) : (s.setPath π v).attnUnit q = s.attnUnit q := rfl

/-! ### `setTransit` -/

@[simp] theorem State.setTransit_localTime (s : State) (p : Port) (v : Option Transit) : (s.setTransit p v).localTime = s.localTime := rfl

@[simp] theorem State.setTransit_resetAsserted (s : State) (p : Port) (v : Option Transit) : (s.setTransit p v).resetAsserted = s.resetAsserted := rfl

@[simp] theorem State.setTransit_startUpFrom (s : State) (p : Port) (v : Option Transit) : (s.setTransit p v).startUpFrom = s.startUpFrom := rfl

@[simp] theorem State.setTransit_ports (s : State) (p : Port) (v : Option Transit) : (s.setTransit p v).ports = s.ports := rfl

@[simp] theorem State.setTransit_sup (s : State) (p : Port) (v : Option Transit) : (s.setTransit p v).sup = s.sup := rfl

@[simp] theorem State.setTransit_holder (s : State) (p : Port) (v : Option Transit) : (s.setTransit p v).holder = s.holder := rfl

@[simp] theorem State.setTransit_attn (s : State) (p : Port) (v : Option Transit) : (s.setTransit p v).attn = s.attn := rfl

@[simp] theorem State.setTransit_freeBlocks (s : State) (p : Port) (v : Option Transit) : (s.setTransit p v).freeBlocks = s.freeBlocks := rfl

@[simp] theorem State.setTransit_circuits (s : State) (p : Port) (v : Option Transit) : (s.setTransit p v).circuits = s.circuits := rfl

@[simp] theorem State.setTransit_paths (s : State) (p : Port) (v : Option Transit) : (s.setTransit p v).paths = s.paths := rfl

@[simp] theorem State.setTransit_ref (s : State) (p : Port) (v : Option Transit) : (s.setTransit p v).ref = s.ref := rfl

@[simp] theorem State.setTransit_freeCount (s : State) (p : Port) (v : Option Transit) : (s.setTransit p v).freeCount = s.freeCount := rfl

@[simp] theorem State.setTransit_pending (s : State) (p : Port) (v : Option Transit) : (s.setTransit p v).pending = s.pending := rfl

@[simp] theorem State.setTransit_circuit (s : State) (p : Port) (v : Option Transit) (d : CircuitId) : (s.setTransit p v).circuit d = s.circuit d := rfl

@[simp] theorem State.setTransit_port (s : State) (p : Port) (v : Option Transit) (q : Port) : (s.setTransit p v).port q = s.port q := rfl

@[simp] theorem State.setTransit_supUnit (s : State) (p : Port) (v : Option Transit) (q : Port) : (s.setTransit p v).supUnit q = s.supUnit q := rfl

@[simp] theorem State.setTransit_attnUnit (s : State) (p : Port) (v : Option Transit) (q : Port) : (s.setTransit p v).attnUnit q = s.attnUnit q := rfl

@[simp] theorem State.setTransit_pathUnit (s : State) (p : Port) (v : Option Transit) (ρ : Path) : (s.setTransit p v).pathUnit ρ = s.pathUnit ρ := rfl

/-! ### `setHolder` -/

@[simp] theorem State.setHolder_localTime (s : State) (h : Option Port) : (s.setHolder h).localTime = s.localTime := rfl

@[simp] theorem State.setHolder_resetAsserted (s : State) (h : Option Port) : (s.setHolder h).resetAsserted = s.resetAsserted := rfl

@[simp] theorem State.setHolder_startUpFrom (s : State) (h : Option Port) : (s.setHolder h).startUpFrom = s.startUpFrom := rfl

@[simp] theorem State.setHolder_ports (s : State) (h : Option Port) : (s.setHolder h).ports = s.ports := rfl

@[simp] theorem State.setHolder_transit (s : State) (h : Option Port) : (s.setHolder h).transit = s.transit := rfl

@[simp] theorem State.setHolder_sup (s : State) (h : Option Port) : (s.setHolder h).sup = s.sup := rfl

@[simp] theorem State.setHolder_attn (s : State) (h : Option Port) : (s.setHolder h).attn = s.attn := rfl

@[simp] theorem State.setHolder_freeBlocks (s : State) (h : Option Port) : (s.setHolder h).freeBlocks = s.freeBlocks := rfl

@[simp] theorem State.setHolder_circuits (s : State) (h : Option Port) : (s.setHolder h).circuits = s.circuits := rfl

@[simp] theorem State.setHolder_paths (s : State) (h : Option Port) : (s.setHolder h).paths = s.paths := rfl

@[simp] theorem State.setHolder_ref (s : State) (h : Option Port) : (s.setHolder h).ref = s.ref := rfl

@[simp] theorem State.setHolder_freeCount (s : State) (h : Option Port) : (s.setHolder h).freeCount = s.freeCount := rfl

@[simp] theorem State.setHolder_pending (s : State) (h : Option Port) : (s.setHolder h).pending = s.pending := rfl

@[simp] theorem State.setHolder_circuit (s : State) (h : Option Port) (d : CircuitId) : (s.setHolder h).circuit d = s.circuit d := rfl

@[simp] theorem State.setHolder_port (s : State) (h : Option Port) (q : Port) : (s.setHolder h).port q = s.port q := rfl

@[simp] theorem State.setHolder_supUnit (s : State) (h : Option Port) (q : Port) : (s.setHolder h).supUnit q = s.supUnit q := rfl

@[simp] theorem State.setHolder_attnUnit (s : State) (h : Option Port) (q : Port) : (s.setHolder h).attnUnit q = s.attnUnit q := rfl

@[simp] theorem State.setHolder_pathUnit (s : State) (h : Option Port) (ρ : Path) : (s.setHolder h).pathUnit ρ = s.pathUnit ρ := rfl

/-! ### `setRef` -/

@[simp] theorem State.setRef_localTime (s : State) (r : RefMonitor) : (s.setRef r).localTime = s.localTime := rfl

@[simp] theorem State.setRef_resetAsserted (s : State) (r : RefMonitor) : (s.setRef r).resetAsserted = s.resetAsserted := rfl

@[simp] theorem State.setRef_startUpFrom (s : State) (r : RefMonitor) : (s.setRef r).startUpFrom = s.startUpFrom := rfl

@[simp] theorem State.setRef_ports (s : State) (r : RefMonitor) : (s.setRef r).ports = s.ports := rfl

@[simp] theorem State.setRef_transit (s : State) (r : RefMonitor) : (s.setRef r).transit = s.transit := rfl

@[simp] theorem State.setRef_sup (s : State) (r : RefMonitor) : (s.setRef r).sup = s.sup := rfl

@[simp] theorem State.setRef_holder (s : State) (r : RefMonitor) : (s.setRef r).holder = s.holder := rfl

@[simp] theorem State.setRef_attn (s : State) (r : RefMonitor) : (s.setRef r).attn = s.attn := rfl

@[simp] theorem State.setRef_freeBlocks (s : State) (r : RefMonitor) : (s.setRef r).freeBlocks = s.freeBlocks := rfl

@[simp] theorem State.setRef_circuits (s : State) (r : RefMonitor) : (s.setRef r).circuits = s.circuits := rfl

@[simp] theorem State.setRef_paths (s : State) (r : RefMonitor) : (s.setRef r).paths = s.paths := rfl

@[simp] theorem State.setRef_freeCount (s : State) (r : RefMonitor) : (s.setRef r).freeCount = s.freeCount := rfl

@[simp] theorem State.setRef_pending (s : State) (r : RefMonitor) : (s.setRef r).pending = s.pending := rfl

@[simp] theorem State.setRef_circuit (s : State) (r : RefMonitor) (d : CircuitId) : (s.setRef r).circuit d = s.circuit d := rfl

@[simp] theorem State.setRef_port (s : State) (r : RefMonitor) (q : Port) : (s.setRef r).port q = s.port q := rfl

@[simp] theorem State.setRef_supUnit (s : State) (r : RefMonitor) (q : Port) : (s.setRef r).supUnit q = s.supUnit q := rfl

@[simp] theorem State.setRef_attnUnit (s : State) (r : RefMonitor) (q : Port) : (s.setRef r).attnUnit q = s.attnUnit q := rfl

@[simp] theorem State.setRef_pathUnit (s : State) (r : RefMonitor) (ρ : Path) : (s.setRef r).pathUnit ρ = s.pathUnit ρ := rfl

/-! ### `setFreeBlocks` -/

@[simp] theorem State.setFreeBlocks_localTime (s : State) (n : Nat) : (s.setFreeBlocks n).localTime = s.localTime := rfl

@[simp] theorem State.setFreeBlocks_resetAsserted (s : State) (n : Nat) : (s.setFreeBlocks n).resetAsserted = s.resetAsserted := rfl

@[simp] theorem State.setFreeBlocks_startUpFrom (s : State) (n : Nat) : (s.setFreeBlocks n).startUpFrom = s.startUpFrom := rfl

@[simp] theorem State.setFreeBlocks_ports (s : State) (n : Nat) : (s.setFreeBlocks n).ports = s.ports := rfl

@[simp] theorem State.setFreeBlocks_transit (s : State) (n : Nat) : (s.setFreeBlocks n).transit = s.transit := rfl

@[simp] theorem State.setFreeBlocks_sup (s : State) (n : Nat) : (s.setFreeBlocks n).sup = s.sup := rfl

@[simp] theorem State.setFreeBlocks_holder (s : State) (n : Nat) : (s.setFreeBlocks n).holder = s.holder := rfl

@[simp] theorem State.setFreeBlocks_attn (s : State) (n : Nat) : (s.setFreeBlocks n).attn = s.attn := rfl

@[simp] theorem State.setFreeBlocks_circuits (s : State) (n : Nat) : (s.setFreeBlocks n).circuits = s.circuits := rfl

@[simp] theorem State.setFreeBlocks_paths (s : State) (n : Nat) : (s.setFreeBlocks n).paths = s.paths := rfl

@[simp] theorem State.setFreeBlocks_ref (s : State) (n : Nat) : (s.setFreeBlocks n).ref = s.ref := rfl

@[simp] theorem State.setFreeBlocks_freeCount (s : State) (n : Nat) : (s.setFreeBlocks n).freeCount = s.freeCount := rfl

@[simp] theorem State.setFreeBlocks_pending (s : State) (n : Nat) : (s.setFreeBlocks n).pending = s.pending := rfl

@[simp] theorem State.setFreeBlocks_circuit (s : State) (n : Nat) (d : CircuitId) : (s.setFreeBlocks n).circuit d = s.circuit d := rfl

@[simp] theorem State.setFreeBlocks_port (s : State) (n : Nat) (q : Port) : (s.setFreeBlocks n).port q = s.port q := rfl

@[simp] theorem State.setFreeBlocks_supUnit (s : State) (n : Nat) (q : Port) : (s.setFreeBlocks n).supUnit q = s.supUnit q := rfl

@[simp] theorem State.setFreeBlocks_attnUnit (s : State) (n : Nat) (q : Port) : (s.setFreeBlocks n).attnUnit q = s.attnUnit q := rfl

@[simp] theorem State.setFreeBlocks_pathUnit (s : State) (n : Nat) (ρ : Path) : (s.setFreeBlocks n).pathUnit ρ = s.pathUnit ρ := rfl

/-! ### `bumpFree` -/

@[simp] theorem State.bumpFree_localTime (s : State) : (s.bumpFree).localTime = s.localTime := rfl

@[simp] theorem State.bumpFree_resetAsserted (s : State) : (s.bumpFree).resetAsserted = s.resetAsserted := rfl

@[simp] theorem State.bumpFree_startUpFrom (s : State) : (s.bumpFree).startUpFrom = s.startUpFrom := rfl

@[simp] theorem State.bumpFree_ports (s : State) : (s.bumpFree).ports = s.ports := rfl

@[simp] theorem State.bumpFree_transit (s : State) : (s.bumpFree).transit = s.transit := rfl

@[simp] theorem State.bumpFree_sup (s : State) : (s.bumpFree).sup = s.sup := rfl

@[simp] theorem State.bumpFree_holder (s : State) : (s.bumpFree).holder = s.holder := rfl

@[simp] theorem State.bumpFree_attn (s : State) : (s.bumpFree).attn = s.attn := rfl

@[simp] theorem State.bumpFree_freeBlocks (s : State) : (s.bumpFree).freeBlocks = s.freeBlocks := rfl

@[simp] theorem State.bumpFree_circuits (s : State) : (s.bumpFree).circuits = s.circuits := rfl

@[simp] theorem State.bumpFree_paths (s : State) : (s.bumpFree).paths = s.paths := rfl

@[simp] theorem State.bumpFree_ref (s : State) : (s.bumpFree).ref = s.ref := rfl

@[simp] theorem State.bumpFree_pending (s : State) : (s.bumpFree).pending = s.pending := rfl

@[simp] theorem State.bumpFree_circuit (s : State) (d : CircuitId) : (s.bumpFree).circuit d = s.circuit d := rfl

@[simp] theorem State.bumpFree_port (s : State) (q : Port) : (s.bumpFree).port q = s.port q := rfl

@[simp] theorem State.bumpFree_supUnit (s : State) (q : Port) : (s.bumpFree).supUnit q = s.supUnit q := rfl

@[simp] theorem State.bumpFree_attnUnit (s : State) (q : Port) : (s.bumpFree).attnUnit q = s.attnUnit q := rfl

@[simp] theorem State.bumpFree_pathUnit (s : State) (ρ : Path) : (s.bumpFree).pathUnit ρ = s.pathUnit ρ := rfl

/-! ### Each update read back -/

@[simp] theorem State.circuit_setCircuit_self (s : State) (c : CircuitId) (v : Circuit) : (s.setCircuit c v).circuit c = v := by
  simp [State.circuit, State.setCircuit]

theorem State.circuit_setCircuit_ne (s : State) {c d : CircuitId} (v : Circuit) (h : d ≠ c) :
    (s.setCircuit c v).circuit d = s.circuit d := by
  have h' : (c : Nat) ≠ (d : Nat) := fun e => h (Fin.ext e.symm)
  simp [State.circuit, State.setCircuit, h']

@[simp] theorem State.port_setPort_self (s : State) (p : Port) (v : PortUnit) : (s.setPort p v).port p = v := by
  simp [State.port, State.setPort]

theorem State.port_setPort_ne (s : State) {p q : Port} (v : PortUnit) (h : q ≠ p) : (s.setPort p v).port q = s.port q :=
  PerPort.get_set_ne _ _ h

@[simp] theorem State.supUnit_setSup_self (s : State) (p : Port) (v : SupUnit) : (s.setSup p v).supUnit p = v := by
  simp [State.supUnit, State.setSup]

theorem State.supUnit_setSup_ne (s : State) {p q : Port} (v : SupUnit) (h : q ≠ p) : (s.setSup p v).supUnit q = s.supUnit q :=
  PerPort.get_set_ne _ _ h

@[simp] theorem State.attnUnit_setAttn_self (s : State) (p : Port) (v : AttnUnit) : (s.setAttn p v).attnUnit p = v := by
  simp [State.attnUnit, State.setAttn]

theorem State.attnUnit_setAttn_ne (s : State) {p q : Port} (v : AttnUnit) (h : q ≠ p) :
    (s.setAttn p v).attnUnit q = s.attnUnit q :=
  PerPort.get_set_ne _ _ h

@[simp] theorem State.pathUnit_setPath_self (s : State) (π : Path) (v : PathUnit) : (s.setPath π v).pathUnit π = v := by
  simp [State.pathUnit, State.setPath]

theorem State.pathUnit_setPath_ne (s : State) {π ρ : Path} (v : PathUnit) (h : ρ ≠ π) :
    (s.setPath π v).pathUnit ρ = s.pathUnit ρ :=
  PerPath.get_set_ne _ _ h

@[simp] theorem State.transit_setTransit (s : State) (p : Port) (v : Option Transit) :
    (s.setTransit p v).transit = s.transit.set p v := rfl

@[simp] theorem State.holder_setHolder (s : State) (h : Option Port) : (s.setHolder h).holder = h := rfl

@[simp] theorem State.ref_setRef (s : State) (r : RefMonitor) : (s.setRef r).ref = r := rfl

@[simp] theorem State.freeBlocks_setFreeBlocks (s : State) (n : Nat) : (s.setFreeBlocks n).freeBlocks = n := rfl

@[simp] theorem State.freeCount_bumpFree (s : State) : s.bumpFree.freeCount = s.freeCount + 1 := rfl

@[simp] theorem State.circuit_updCircuit_self (s : State) (c : CircuitId) (f : Circuit → Circuit) :
    (s.updCircuit c f).circuit c = f (s.circuit c) := by
  simp [State.updCircuit]

theorem State.circuit_updCircuit_ne (s : State) {c d : CircuitId} (f : Circuit → Circuit) (h : d ≠ c) :
    (s.updCircuit c f).circuit d = s.circuit d :=
  State.circuit_setCircuit_ne s _ h

end Sys2Proof.Machine
end

