-- ==== Sys2Proof/Laws/Ops.lean ====
section
/-! SUPPORT. For each shared operation, once, everything it can do: which parts of the state it may change and how. Later proofs cite these and
do not unfold the operation. -/

namespace Sys2Proof.Machine

/-! ### Updates of one circuit -/

@[simp] theorem State.setCircuit_setCircuit (s : State) (c : CircuitId) (v w : Circuit) :
    (s.setCircuit c v).setCircuit c w = s.setCircuit c w := by
  simp [State.setCircuit, Vector.set_set]

@[simp] theorem State.setCircuit_self (s : State) (c : CircuitId) : s.setCircuit c (s.circuit c) = s := by
  simp [State.setCircuit, State.circuit]

theorem State.updCircuit_eq (s : State) (c : CircuitId) (f : Circuit → Circuit) :
    s.updCircuit c f = s.setCircuit c (f (s.circuit c)) := rfl

/-! ### Attention (R170) -/

theorem AttnUnit.take_merge (u : AttnUnit) (src : Source) (kind : AttnKind) (value : BitVec 16) (now : Time)
    (h : ∃ r ∈ u.queue, r.source = src ∧ r.kind = kind) :
    u.take src kind value now =
      { u with queue := u.queue.map fun r => if r.isOf src kind then r.merge value else r } := by
  have : u.queue.any (fun r => r.isOf src kind) = true := by
    obtain ⟨r, hr, h1, h2⟩ := h
    exact List.any_eq_true.2 ⟨r, hr, by simp [AttnRecord.isOf, h1, h2]⟩
  simp [AttnUnit.take, this]

theorem AttnUnit.take_new (u : AttnUnit) (src : Source) (kind : AttnKind) (value : BitVec 16) (now : Time)
    (h : ∀ r ∈ u.queue, ¬(r.source = src ∧ r.kind = kind)) :
    u.take src kind value now =
      if 48 ≤ u.queue.length then { u with overflow := true }
      else { u with queue := u.queue ++ [⟨src, kind, 1, value, now⟩] } := by
  have : u.queue.any (fun r => r.isOf src kind) = false := by
    apply Bool.eq_false_iff.2
    intro hh
    obtain ⟨r, hr, h1⟩ := List.any_eq_true.1 hh
    simp [AttnRecord.isOf] at h1
    exact h r hr h1
  unfold AttnUnit.take
  rw [if_neg (by simp [this])]
  rfl

theorem State.postTo_eq (s : State) (p : Port) (src : Source) (kind : AttnKind) (value : BitVec 16) :
    s.postTo p src kind value =
      { s with attn := s.attn.set p ((s.attn.get p).take src kind value s.localTime) } := rfl

/-- A post changes the attention queues and nothing else. -/
theorem State.post_eq (s : State) (src : Source) (kind : AttnKind) (value : BitVec 16) :
    s.post src kind value = { s with attn := s.attnAfter [⟨src, kind, value⟩] } := rfl

theorem State.attnAfter_nil (s : State) : s.attnAfter [] = s.attn := rfl

/-- Posts in turn are one list of events. -/
theorem State.attnAfter_append (s : State) (xs ys : List Event) :
    ({ s with attn := s.attnAfter xs } : State).attnAfter ys = s.attnAfter (xs ++ ys) := by
  simp [State.attnAfter, AttnUnit.takeAll, List.foldl_append]

/-! ### Serving a frame (R149) -/

theorem serve_atOwner {p : Port} {code : Octet} {params : List Octet} {s : State}
    (rule : List Octet → State → State × List Octet) (h : s.frameAtOwner p code params) :
    serve p code rule s = (rule params s).1.setTransit p (some (.returning (rule params s).2)) := by
  simp only [State.frameAtOwner] at h
  simp [serve, h]

/-- Without a frame of this code at the owner, nothing is served. -/
theorem serve_idle {p : Port} {code : Octet} {s : State} (rule : List Octet → State → State × List Octet)
    (h : ∀ params : List Octet, ¬s.frameAtOwner p code params) : serve p code rule s = s := by
  unfold serve
  split
  · rename_i f hf
    split
    · rename_i hc
      exact absurd (by simp only [State.frameAtOwner, hf]; cases f; cases hc; rfl) (h f.params)
    · rfl
  · rfl

/-- Whatever is served, the state is that of the rule but for the exchange of the port. -/
theorem serve_cases (p : Port) (code : Octet) (rule : List Octet → State → State × List Octet) (s : State) :
    serve p code rule s = s
      ∨ ∃ params : List Octet, s.frameAtOwner p code params
          ∧ serve p code rule s = (rule params s).1.setTransit p (some (.returning (rule params s).2)) := by
  by_cases h : ∃ params : List Octet, s.frameAtOwner p code params
  · obtain ⟨params, h⟩ := h
    exact .inr ⟨params, h, serve_atOwner rule h⟩
  · exact .inl (serve_idle rule fun params hp => h ⟨params, hp⟩)

/-! ### Handing a packet to a path (R59) -/

/-- A hand-off counts a transmit drop of the circuit, counts a link-down drop, or appends an entry to a queue with room. -/
theorem State.handPacket_cases (s : State) (π : Path) (c : CircuitId) (kind : PacketKind) (number : Seq) (packet : List Octet) :
    s.handPacket π c kind number packet = s.txDrop π c
      ∨ ((s.pathUnit π).linkUp = false
          ∧ s.handPacket π c kind number packet =
              s.setPath π { s.pathUnit π with linkDownDrops := (s.pathUnit π).linkDownDrops + 1 })
      ∨ ((s.pathUnit π).linkUp = true ∧ (s.pathUnit π).queue.length < 64
          ∧ ∃ e : QueueEntry, e.circuit = c ∧ e.kind = kind ∧ e.number = number
              ∧ s.handPacket π c kind number packet =
                  s.setPath π { s.pathUnit π with queue := (s.pathUnit π).queue ++ [e] }) := by
  unfold State.handPacket
  simp only []
  split
  · exact .inl rfl
  · split
    · rename_i h
      exact .inr (.inl ⟨by simpa using h, rfl⟩)
    · split
      · exact .inl rfl
      · rename_i h1 h2
        refine .inr (.inr ⟨by simpa using h1, by simpa [Config.queueCapacity] using h2, _, ?_, ?_, ?_, rfl⟩) <;> rfl

/-- A hand-off touches the counters of its circuit and its path alone. -/
theorem State.handPacket_eq (s : State) (π : Path) (c : CircuitId) (kind : PacketKind) (number : Seq) (packet : List Octet) :
    ∃ (k : PerPath CpCounters) (u : PathUnit),
      s.handPacket π c kind number packet = (s.setCircuit c { s.circuit c with cpCounters := k }).setPath π u := by
  rcases s.handPacket_cases π c kind number packet with h | ⟨-, h⟩ | ⟨-, -, e, -, -, -, h⟩
  · refine ⟨((s.circuit c).bumpCp π fun k => { k with txDrops := k.txDrops + 1 }).cpCounters, s.pathUnit π, h.trans ?_⟩
    simp [State.txDrop, State.updCircuit, State.setPath, State.pathUnit, State.setCircuit, Circuit.bumpCp]
  · have e : s.setCircuit c { s.circuit c with cpCounters := (s.circuit c).cpCounters } = s := State.setCircuit_self s c
    exact ⟨(s.circuit c).cpCounters,
      { s.pathUnit π with linkDownDrops := (s.pathUnit π).linkDownDrops + 1 }, by rw [e]; exact h⟩
  · have e' : s.setCircuit c { s.circuit c with cpCounters := (s.circuit c).cpCounters } = s := State.setCircuit_self s c
    exact ⟨(s.circuit c).cpCounters,
      { s.pathUnit π with queue := (s.pathUnit π).queue ++ [e] }, by rw [e']; exact h⟩

/-! ### Path health (R66, R68) -/

/-- A judgement of the transmit path may move the active path of the circuit and post, and changes nothing else. -/
theorem State.judgeTx_eq (s : State) (c : CircuitId) :
    ∃ (a : Path) (attn : PerPort AttnUnit),
      s.judgeTx c =
        { s.setCircuit c { s.circuit c with health := { (s.circuit c).health with active := a } } with attn := attn } := by
  unfold State.judgeTx
  simp only []
  split
  · exact ⟨_, _, rfl⟩
  · refine ⟨(s.circuit c).health.active, s.attn, ?_⟩
    exact (State.setCircuit_self s c).symm

/-- A health step changes the health of its circuit, may post, and changes nothing else. -/
theorem State.healthStep_eq (s : State) (c : CircuitId) (π : Path) (good : Bool) :
    ∃ (h : Health) (attn : PerPort AttnUnit),
      s.healthStep c π good = { s.setCircuit c { s.circuit c with health := h } with attn := attn } := by
  unfold State.healthStep
  simp only []
  split
  · exact ⟨_, s.attn, rfl⟩
  · obtain ⟨a, attn, h⟩ := State.judgeTx_eq (State.post (s.setCircuit c _) _ _ _) c
    rw [h]
    refine ⟨{ (s.circuit c).health with
        count := (s.circuit c).health.count.set π (stepCount (s.circuit c).pathSet good ((s.circuit c).health.count.get π)),
        degraded := (s.circuit c).health.degraded.set π
          (judgeStatus (s.circuit c).pathSet (stepCount (s.circuit c).pathSet good ((s.circuit c).health.count.get π))
            ((s.circuit c).health.degraded.get π)),
        active := a }, attn, ?_⟩
    simp only [State.post_eq]
    simp [State.setCircuit, State.circuit, Vector.set_set]

/-! ### Line alarms and saturation (R33, R110, R111) -/

/-- The alarm post changes the attention queues at most. -/
theorem State.postAlarmChange_eq (s : State) (c : CircuitId) (before : Nat) :
    ∃ attn : PerPort AttnUnit, s.postAlarmChange c before = { s with attn := attn } := by
  unfold State.postAlarmChange
  simp only []
  split
  · exact ⟨_, State.post_eq ..⟩
  · exact ⟨s.attn, rfl⟩

/-- Saturation sets flag copies of its circuit, may post, and changes nothing else. -/
theorem State.saturate_eq (s : State) (c : CircuitId) (integrator output : Bool) :
    ∃ attn : PerPort AttnUnit,
      s.saturate c integrator output =
        { s.setCircuit c { s.circuit c with timing := (s.circuit c).timing.setSat integrator output } with attn := attn } := by
  unfold State.saturate
  simp only []
  split
  · exact ⟨_, rfl⟩
  · exact ⟨s.attn, rfl⟩

/-- A depth sample changes the timing state of its circuit, may post, and changes nothing else. -/
theorem State.depthSample_eq (s : State) (c : CircuitId) (d : Nat) :
    ∃ (t : Timing) (attn : PerPort AttnUnit),
      s.depthSample c d = { s.setCircuit c { s.circuit c with timing := t } with attn := attn } := by
  unfold State.depthSample
  simp only []
  split
  · split
    · unfold State.loopUpdate
      obtain ⟨attn, h⟩ := State.saturate_eq
        (State.setCircuit (s.setCircuit c { s.circuit c with
          timing := { (s.circuit c).timing with sum := (s.circuit c).timing.sum + d, n := (s.circuit c).timing.n + 1 } }) c _) c _ _
      simp only []
      rw [h]
      simp only [State.circuit_setCircuit_self, State.setCircuit_setCircuit]
      exact ⟨_, attn, rfl⟩
    · exact ⟨_, s.attn, rfl⟩
  · exact ⟨(s.circuit c).timing, s.attn, (State.setCircuit_self s c).symm⟩

/-! ### Arrivals (R83, R85, R92) -/

/-- Judging R writes last received R, may post, and changes nothing else. -/
theorem State.judgeR_eq (s : State) (c : CircuitId) (r : Bool) :
    ∃ attn : PerPort AttnUnit,
      s.judgeR c r =
        { s.setCircuit c { s.circuit c with cursor := { (s.circuit c).cursor with lastR := some r } } with attn := attn } := by
  unfold State.judgeR
  simp only []
  split
  · exact ⟨_, rfl⟩
  · exact ⟨s.attn, rfl⟩

/-- What follows a store changes the timing state or the requests of its circuit, may post, and changes nothing else. -/
theorem State.afterStore_eq (s : State) (c : CircuitId) :
    ∃ (t : Timing) (r : Requests) (attn : PerPort AttnUnit),
      s.afterStore c = { s.setCircuit c { s.circuit c with timing := t, requests := r } with attn := attn } := by
  unfold State.afterStore
  simp only []
  split
  · obtain ⟨t, attn, h⟩ := State.depthSample_eq s c (s.circuit c).depth
    exact ⟨t, (s.circuit c).requests, attn, h⟩
  · split
    · exact ⟨(s.circuit c).timing, _, s.attn, rfl⟩
    · exact ⟨(s.circuit c).timing, (s.circuit c).requests, s.attn, (State.setCircuit_self s c).symm⟩
  · exact ⟨(s.circuit c).timing, (s.circuit c).requests, s.attn, (State.setCircuit_self s c).symm⟩

/-! ### Delay alarms (R139, R140) -/

/-- Judging the delay alarm of a path changes that alarm at most, and may post. -/
theorem State.judgeDelay_eq (s : State) (c : CircuitId) (π : Path) :
    ∃ (alarm : Bool) (attn : PerPort AttnUnit),
      s.judgeDelay c π =
        { s.setCircuit c { s.circuit c with probing := { (s.circuit c).probing with
            record := (s.circuit c).probing.record.set π { (s.circuit c).probing.record.get π with alarm := alarm } } } with
          attn := attn } := by
  have same : s = { s.setCircuit c { s.circuit c with probing := { (s.circuit c).probing with
      record := (s.circuit c).probing.record.set π
        { (s.circuit c).probing.record.get π with alarm := ((s.circuit c).probing.record.get π).alarm } } } with
      attn := s.attn } := by
    show s = s.setCircuit c { s.circuit c with probing := { (s.circuit c).probing with
      record := (s.circuit c).probing.record.set π ((s.circuit c).probing.record.get π) } }
    rw [PerPath.set_get_self]
    exact (State.setCircuit_self s c).symm
  unfold State.judgeDelay
  simp only []
  split
  · exact ⟨_, _, same⟩
  · split
    · exact ⟨_, _, same⟩
    · exact ⟨_, _, rfl⟩

/-- Judging the asymmetry changes its alarm at most, and may post. -/
theorem State.judgeAsymmetry_eq (s : State) (c : CircuitId) :
    ∃ (alarm : Bool) (attn : PerPort AttnUnit),
      s.judgeAsymmetry c =
        { s.setCircuit c { s.circuit c with probing := { (s.circuit c).probing with asymmetryAlarm := alarm } } with
          attn := attn } := by
  unfold State.judgeAsymmetry
  simp only []
  split
  · exact ⟨_, s.attn, (State.setCircuit_self s c).symm⟩
  · split
    · exact ⟨_, s.attn, (State.setCircuit_self s c).symm⟩
    · exact ⟨_, _, rfl⟩

/-! ### Ports, supervision and authority (R151, R162 to R167) -/

/-- A port that takes a complete frame changes itself and its own exchange, and nothing else. -/
theorem State.settlePort_eq (s : State) (p : Port) :
    ∃ (u : PortUnit) (x : Option Transit), s.settlePort p = (s.setPort p u).setTransit p x := by
  have same : s = (s.setPort p (s.port p)).setTransit p (s.transit.get p) := by
    simp [State.setPort, State.setTransit, State.port]
  have one : ∀ u : PortUnit, s.setPort p u = (s.setPort p u).setTransit p (s.transit.get p) := by
    intro u
    simp [State.setPort, State.setTransit]
  unfold State.settlePort
  split
  · unfold State.completeFrame
    simp only []
    split
    · exact ⟨_, _, one _⟩
    · split
      · exact ⟨_, _, one _⟩
      · unfold State.handOn
        split
        · exact ⟨_, _, rfl⟩
        · exact ⟨_, _, rfl⟩
  · exact ⟨_, _, same⟩

/-- A controller reset event at a port changes that port and its own exchange, and nothing else. -/
theorem State.controllerResetAtPort_eq (s : State) (p : Port) :
    ∃ (u : PortUnit) (x : Option Transit), s.controllerResetAtPort p = (s.setPort p u).setTransit p x := by
  unfold State.controllerResetAtPort
  obtain ⟨u, x, h⟩ := s.settlePort_eq p
  simp only [h]
  refine ⟨u.controllerReset, x, ?_⟩
  simp [State.setPort, State.setTransit, State.port]

/-- Authority passes to the other port if that is eligible and to none otherwise; nothing else but the posts changes. -/
theorem State.passAuthority_eq (s : State) (p : Port) :
    s.passAuthority p =
      { s with
        holder := if (s.supUnit p.other).eligible then some p.other else none,
        attn := s.attnAfter [⟨.port p, .authority,
          hiLo (holderCode s.holder) (holderCode (if (s.supUnit p.other).eligible then some p.other else none))⟩] } := rfl

/-- An event of a supervision unit leaves it in the event's final unit; beyond it only the holder, the attention queues and the
unit's own port and exchange may change. -/
theorem State.supEvent_eq (s : State) (p : Port) (e : SupEffect) :
    ∃ (holder : Option Port) (attn : PerPort AttnUnit) (u : PortUnit) (x : Option Transit),
      s.supEvent p e =
        (({ s.setSup p (e.final s.localTime) with holder := holder, attn := attn } : State).setPort p u).setTransit p x := by
  have plain : ∀ t : State, t = (t.setPort p (t.port p)).setTransit p (t.transit.get p) := by
    intro t
    simp [State.setPort, State.setTransit, State.port]
  have main : ∀ (holder : Option Port) (attn : PerPort AttnUnit),
      ∃ (holder' : Option Port) (attn' : PerPort AttnUnit) (u : PortUnit) (x : Option Transit),
        (if e.reset then ({ s.setSup p (e.final s.localTime) with holder := holder, attn := attn } : State).controllerResetAtPort p
          else ({ s.setSup p (e.final s.localTime) with holder := holder, attn := attn } : State)) =
        (({ s.setSup p (e.final s.localTime) with holder := holder', attn := attn' } : State).setPort p u).setTransit p x := by
    intro holder attn
    split
    · obtain ⟨u, x, h⟩ := State.controllerResetAtPort_eq { s.setSup p (e.final s.localTime) with holder := holder, attn := attn } p
      exact ⟨holder, attn, u, x, h⟩
    · exact ⟨holder, attn, _, _, plain _⟩
  unfold State.supEvent
  simp only []
  obtain ⟨attn, ha⟩ : ∃ attn : PerPort AttnUnit,
      (if e.flagged || (s.supUnit p).eligible != (e.final s.localTime).eligible then
          (s.setSup p (e.final s.localTime)).postTo p (.port p) .supervision (e.final s.localTime).postValue
        else s.setSup p (e.final s.localTime)) = { s.setSup p (e.final s.localTime) with attn := attn } := by
    split
    · exact ⟨_, rfl⟩
    · exact ⟨s.attn, rfl⟩
  rw [ha]
  by_cases h : ((s.supUnit p).eligible && !(e.final s.localTime).eligible && decide (s.holder = some p)) = true
  · rw [if_pos h]
    exact main _ _
  · rw [if_neg h]
    exact main s.holder attn

/-! ### The line -/

/-- Taking what is due on a line when nothing is. -/
theorem State.settleLine_idle {s : State} {c : CircuitId} (h : (s.circuit c).lineDue = none) : s.settleLine c = s := by
  unfold State.settleLine
  rw [settleLineFor.eq_2]
  rw [h]

/-- A hand-off leaves every line as it is (R59). -/
theorem State.handPacket_line (s : State) (π : Path) (c d : CircuitId) (kind : PacketKind) (number : Seq)
    (packet : List Octet) : ((s.handPacket π c kind number packet).circuit d).line = (s.circuit d).line := by
  obtain ⟨k, u, h⟩ := s.handPacket_eq π c kind number packet
  rw [h, State.setPath_circuit]
  by_cases hd : d = c
  · subst hd; rw [State.circuit_setCircuit_self]
  · rw [State.circuit_setCircuit_ne _ _ hd]

/-- Handing a frame to the packetizer leaves the line as it is (R40, R41). -/
theorem State.handFrame_line (s : State) (c : CircuitId) (octets : List Octet) (mark : Bool) :
    ((s.handFrame c octets mark).circuit c).line = (s.circuit c).line := by
  unfold State.handFrame
  simp only []
  split
  · split
    · unfold State.completePacket
      simp only []
      split <;> simp only [State.handPacket_line, State.circuit_setCircuit_self]
    · simp only [State.circuit_setCircuit_self]
  · simp only [State.circuit_setCircuit_self]

/-- An alarm post leaves every line as it is. -/
@[simp] theorem State.postAlarmChange_line (s : State) (c d : CircuitId) (before : Nat) :
    ((s.postAlarmChange c before).circuit d).line = (s.circuit d).line := by
  obtain ⟨attn, h⟩ := s.postAlarmChange_eq c before
  rw [h]
  rfl

/-- What a step of a line can do to its receive clock: nothing. -/
theorem State.lineStep_clock (s : State) (c : CircuitId) (k : LineStep) :
    ((s.lineStep c k).circuit c).line.crystal = (s.circuit c).line.crystal
      ∧ ((s.lineStep c k).circuit c).line.rxPhase = (s.circuit c).line.rxPhase := by
  have judged : ∀ (l : Line) (bits : List Bool),
      (l.judgePeriod bits).crystal = l.crystal ∧ (l.judgePeriod bits).rxPhase = l.rxPhase := by
    intro l bits
    unfold Line.judgePeriod
    split <;> exact ⟨rfl, rfl⟩
  cases k with
  | losSet => simp [State.lineStep, State.losSet]
  | aisSpanEnd => simp [State.lineStep, State.aisSpanEnd, Line.spanEnd]
  | lossOfAlignment => simp [State.lineStep, State.lossOfAlignment, Line.alignmentLost]
  | search =>
    simp only [State.lineStep, State.framerSearch, State.updCircuit_eq, State.circuit_setCircuit_self, Line.searchExamine]
    split <;> exact ⟨rfl, rfl⟩
  | verify =>
    simp only [State.lineStep, State.framerVerify]
    split
    · split
      · simp [State.enterAligned, State.updCircuit_eq, Line.alignedEntry, judged, State.handFrame_line]
      · simp [Line.verifyFailed]
    · split <;> simp [Line.verifyFailed]
  | compare => simp [State.lineStep, State.framerCompare, State.updCircuit_eq, Line.alignedCompare]
  | boundary =>
    simp only [State.lineStep, State.receiveBoundary, State.updCircuit_eq, State.circuit_setCircuit_self, Line.boundary, judged]
    split <;> simp [State.handFrame_line]
  | losClear => simp [State.lineStep, State.losClear]

/-- Taking what is due on a line leaves its receive clock as it is. -/
theorem State.settleLine_clock (s : State) (c : CircuitId) :
    ((s.settleLine c).circuit c).line.crystal = (s.circuit c).line.crystal
      ∧ ((s.settleLine c).circuit c).line.rxPhase = (s.circuit c).line.rxPhase := by
  have main : ∀ (n : Nat) (t : State),
      ((settleLineFor n t c).circuit c).line.crystal = (t.circuit c).line.crystal
        ∧ ((settleLineFor n t c).circuit c).line.rxPhase = (t.circuit c).line.rxPhase := by
    intro n
    induction n with
    | zero => exact fun t => ⟨rfl, rfl⟩
    | succ n ih =>
      intro t
      rw [settleLineFor]
      split
      · exact ⟨rfl, rfl⟩
      · rename_i k _
        exact ⟨(ih _).1.trans (t.lineStep_clock c k).1, (ih _).2.trans (t.lineStep_clock c k).2⟩
  exact main 2048 s

/-! ### The receive clock (R22) -/

/-- Before an edge of TRXC nothing is to be counted first where neither a loss nor a bit period of the crystal is due. -/
theorem State.settleClock_idle {s : State} {c : CircuitId} (loss : (s.circuit c).clockLossDue = false)
    (bit : (s.circuit c).crystalBitDue = false) : s.settleClock c = s := by
  unfold State.settleClock State.settleClockLoss
  rw [loss]
  cases (s.circuit c).line.rxPhase / Config.bitPhase with
  | zero => rfl
  | succ n =>
    show (if (s.circuit c).crystalBitDue = true then _ else s) = s
    rw [bit]
    rfl

/-- Before an edge of TRXC a bit period of the crystal that has passed is counted, and then what is left. -/
theorem State.settleClock_bit {s : State} {c : CircuitId} (bit : (s.circuit c).crystalBitDue = true) :
    s.settleClock c = (s.crystalBit c).settleClock c := by
  have on : (s.circuit c).line.crystal = true ∧ Config.bitPhase ≤ (s.circuit c).line.rxPhase := by
    simpa [Circuit.crystalBitDue] using bit
  have loss : s.settleClockLoss c = s := by
    simp [State.settleClockLoss, Circuit.clockLossDue, on.1]
  have next : ((s.crystalBit c).circuit c).line.crystal = true
      ∧ ((s.crystalBit c).circuit c).line.rxPhase = (s.circuit c).line.rxPhase - Config.bitPhase := by
    simp [State.crystalBit, State.updCircuit_eq, Circuit.takeBit, Line.takeBit, (s.settleLine_clock c).2]
  have loss' : (s.crystalBit c).settleClockLoss c = s.crystalBit c := by
    simp [State.settleClockLoss, Circuit.clockLossDue, next.1]
  unfold State.settleClock
  rw [loss, loss', next.2, Nat.div_eq_sub_div (by decide) on.2, crystalBitsFor, if_pos bit]

/-- Before an edge of TRXC a loss that is due is taken, and then what is left. -/
theorem State.settleClock_loss (s : State) (c : CircuitId) : s.settleClock c = (s.settleClockLoss c).settleClock c := by
  have twice : (s.settleClockLoss c).settleClockLoss c = s.settleClockLoss c := by
    by_cases h : (s.circuit c).clockLossDue = true
    · have e : s.settleClockLoss c = s.updCircuit c fun v => { v with line := { v.line with crystal := true } } := if_pos h
      rw [e]
      simp [State.settleClockLoss, Circuit.clockLossDue, State.updCircuit_eq]
    · have e : s.settleClockLoss c = s := if_neg h
      rw [e, e]
  have phase : ((s.settleClockLoss c).circuit c).line.rxPhase = (s.circuit c).line.rxPhase := by
    unfold State.settleClockLoss
    split
    · simp [State.updCircuit_eq]
    · rfl
  unfold State.settleClock
  rw [twice, phase]

/-! ### Close Circuit and an underrun request (R20, R99) -/

/-- Without an underrun request that came first, Close Circuit acts on the circuit as it stands. -/
theorem State.closeCircuit_first {s : State} {p : Port} {c : CircuitId} (limit : Nat)
    (h : (s.circuit c).underrunFirst p = false) : s.closeCircuit p c limit = s.closeSettled c limit := by
  unfold State.closeCircuit
  rw [h]
  rfl

/-- An underrun request that came first is taken before Close Circuit acts. -/
theorem State.closeCircuit_second {s : State} {p : Port} {c : CircuitId} {r : UnderrunRequest} (limit : Nat)
    (run : (s.circuit c).state = .running) (h : (s.circuit c).requests.underrun = some r) (first : r.closesAhead.get p = false) :
    s.closeCircuit p c limit = (s.takeUnderrun c r.head).closeSettled c limit := by
  have due : (s.circuit c).underrunFirst p = true := by
    unfold Circuit.underrunFirst
    rw [h]
    simp [run, first]
  unfold State.closeCircuit State.settleUnderrun
  rw [if_pos due, h]

end Sys2Proof.Machine
end

