-- ==== Sys2Proof/Tests/Slice0.lean ====
section
/-! SUPPORT. Tests: each check of WellFormed refuses an ill-formed term; the spec's own worked examples; and for every statement of the
obligations with hypotheses, a concrete state and operands that meet them (`witness_…`, one part for each clause). -/

namespace Sys2Proof.Tests

-- One theorem at a time: each of the many kernel evaluations below would otherwise wait in a thread of its own.
set_option Elab.async false

open Sys2Proof Sys2Proof.Machine

/-! ### Small states -/

/-- What a reader sees of the state that a command leaves. -/
def after {α : Type} (i : Instr) (s : State) (f : State → α) : Option α :=
  match exec i s with
  | .next t => some (f t)
  | _ => none

/-- Reset with circuit 0 changed. -/
def c0 (f : Circuit → Circuit) : State := State.reset.setCircuit 0 (f .reset)

/-- A frame of CP0 with its owner. -/
def sent (s : State) (code : Octet) (ps : List Octet) : State := s.setTransit .cp0 (some (.atOwner ⟨code, ps⟩))

/-- The result on its way to CP0. -/
def answer (t : State) : Option (List Octet) :=
  match t.transit.cp0 with
  | some (.returning r) => some r
  | _ => none

def p0 (f : PortUnit → PortUnit) : State :=
  ({ State.reset with resetAsserted := false } : State).setPort .cp0 (f { PortUnit.reset with phase := .command })

def u0 (f : SupUnit → SupUnit) : State := State.reset.setSup .cp0 (f (.reset 0x1A2B))

def path0 (f : PathUnit → PathUnit) (s : State) : State := s.setPath .x (f (s.pathUnit .x))

/-- The layout of the example of section 3.5. -/
def lay : Layout := ⟨.structured, [1, 2, 16], 2, 4, 0x0123, 0x0456, 50, 8⟩

def layU : Layout := ⟨.unstructured, [], 1, 2, 7, 9, 1, 1⟩

/-- Circuit 0 open with a layout. -/
def open0 (l : Layout) (state : CState) (f : Circuit → Circuit) : State :=
  c0 fun v => f { v with layout := some l, state := state, ring := List.replicate l.capacity .emptySlot,
                         packetizer := .opened }

/-! ### WellFormed refuses -/

theorem smoke_frame_of_256_parameters : (CommandFrame.mk 0x10 (List.replicate 256 0)).wellFormed = false := by decide +kernel
theorem smoke_unstructured_with_slots : ({ layU with slots := [1] } : Layout).wellFormed = false := by decide
theorem smoke_structured_without_slots : ({ lay with slots := [] } : Layout).wellFormed = false := by decide
theorem smoke_slots_32 : ({ lay with slots := (List.range 32).map (· + 1) } : Layout).wellFormed = false := by decide
theorem smoke_slot_0 : ({ lay with slots := [0, 1] } : Layout).wellFormed = false := by decide
theorem smoke_slot_32 : ({ lay with slots := [31, 32] } : Layout).wellFormed = false := by decide
theorem smoke_slots_not_ascending : ({ lay with slots := [2, 2] } : Layout).wellFormed = false := by decide
theorem smoke_fpp_0 : ({ lay with fpp := 0 } : Layout).wellFormed = false := by decide
theorem smoke_fpp_33 : ({ lay with fpp := 33 } : Layout).wellFormed = false := by decide
theorem smoke_k_1 : ({ lay with k := 1 } : Layout).wellFormed = false := by decide
theorem smoke_k_8 : ({ lay with k := 8 } : Layout).wellFormed = false := by decide
theorem smoke_local_tag_0 : ({ lay with localTag := 0 } : Layout).wellFormed = false := by decide
theorem smoke_local_tag_4096 : ({ lay with localTag := 4096 } : Layout).wellFormed = false := by decide
theorem smoke_remote_tag_0 : ({ lay with remoteTag := 0 } : Layout).wellFormed = false := by decide
theorem smoke_remote_tag_4096 : ({ lay with remoteTag := 4096 } : Layout).wellFormed = false := by decide
theorem smoke_acquisition_limit_0 : ({ lay with acqLimit := 0 } : Layout).wellFormed = false := by decide
theorem smoke_acquisition_limit_256 : ({ lay with acqLimit := 256 } : Layout).wellFormed = false := by decide
theorem smoke_loss_threshold_0 : ({ lay with lossThreshold := 0 } : Layout).wellFormed = false := by decide
theorem smoke_loss_threshold_256 : ({ lay with lossThreshold := 256 } : Layout).wellFormed = false := by decide
theorem smoke_frame_of_no_octets : (Instr.frameReceived .x []).wellFormed = false := by decide
theorem test_layout_of_the_example_is_well_formed : lay.wellFormed = true ∧ layU.wellFormed = true := by decide

/-! ### The spec's own numbers -/

/-- Section 3.5: the frame of Open Circuit, octet by octet. -/
theorem test_open_frame_example :
    parseOpen [0x0C, 0x01, 0x02, 0x04, 0x01, 0x23, 0x04, 0x56, 0x32, 0x08, 0x03, 0x01, 0x02, 0x10] = .ok (12, lay)
      ∧ openParams 12 lay = [0x0C, 0x01, 0x02, 0x04, 0x01, 0x23, 0x04, 0x56, 0x32, 0x08, 0x03, 0x01, 0x02, 0x10] := by
  refine ⟨rfl, by decide⟩

/-- R49: data fields of 46 octets and up, frames of 64 octets and up. -/
theorem test_frame_lengths :
    (QueueEntry.frame ⟨0, .data, 0, 0, 0, 0, List.replicate 70 0⟩ 0).length = 88
      ∧ (QueueEntry.frame ⟨0, .data, 0, 0, 0, 0, List.replicate 6 0⟩ 0).length = 64
      ∧ (QueueEntry.frame ⟨0, .probe, 0, 0, 0, 0, List.replicate 6 0⟩ 0).length = 64 := by decide +kernel

/-- Section 9.3: 07h, 47h and 87h for a holder that supervises; 97h with IGNORED; 27h with FRAMING. -/
theorem test_status_octets :
    let s (phase : Phase) (framing ignored : Bool) : State :=
      ((p0 fun u => { u with phase := phase, framing := framing, ignored := ignored }).setHolder (some .cp0)).setSup .cp0
        { SupUnit.reset 0x1A2B with eligible := true, state := .awaitAnswer }
    (s .command false false).statusOctet .cp0 = 0x07 ∧ (s .executing false false).statusOctet .cp0 = 0x47
      ∧ (s .result false false).statusOctet .cp0 = 0x87 ∧ (s .result false true).statusOctet .cp0 = 0x97
      ∧ (s .command true false).statusOctet .cp0 = 0x27 := by decide +kernel

/-- Section 6.10: the errors, P and increments of the table, with N 64, T 48, Gp 40 and Gi 8. -/
theorem test_loop_table :
    (loopError 3075 48 64, loopError 3069 48 64, loopError 3074 48 64, loopError 3070 48 64, loopError 3073 48 64,
      loopError 2880 48 64) = (1, -1, 1, -1, 0, -48)
      ∧ (loopProportional 1 40, loopProportional (-1) 40, loopProportional (-48) 40) = (2, -2, -120)
      ∧ (loopIncrement 1 8, loopIncrement (-1) 8, loopIncrement (-48) 8) = (0, 0, -6) := by decide +kernel

/-- Section 6.10, the limits: I = 59,990 and S = 3,584 give both clamps. -/
theorem test_loop_limits :
    let t : Timing := { Timing.reset with i := 59990, sum := 3584 }
    ((loopTiming .reset 48 t).i, (loopTiming .reset 48 t).c, loopIntegratorActs .reset 48 t, loopOutputActs .reset 48 t)
      = (60000, 60000, true, true) := by decide +kernel

/-- Sections 6.10 and 7: offsets of windows, and Lim 200,000 stored as 100,000. -/
theorem test_window_offsets :
    (windowOffset 2048020, windowOffset 2048004, windowOffset 2048000, windowOffset 2047980) = (9766, 1953, 0, -9766)
      ∧ clampLim 200000 = 100000 ∧ clampLim 0 = 1000 := by decide +kernel

/-- Section 8: round trips and the smoothing of 4,180 by 4,260. -/
theorem test_smoothing :
    smoothedAfter (some 4180) 4260 = 4190 ∧ smoothedAfter none 4180 = 4180 ∧ plausible (-700) = false ∧ plausible 10000000 = true
      ∧ judgeAlarm 1000 1079 false = true ∧ judgeAlarm 1000 875 true = false ∧ judgeAlarm 1000 876 true = true := by decide +kernel

/-- R36, the transmit sequence of chapter 2: slot 0 and the fill octet. -/
theorem test_transmit_sequence :
    let v : Circuit := { Circuit.reset with layout := some lay, playoutSet := { PlayoutSettings.reset with fillOctet := 0 },
                                            line := { Line.reset with los := true } }
    let f := v.trafficFrame 0x1B true [0xA1, 0xA2, 0xA3]
    let g := v.trafficFrame 0x1B false [0xB1, 0xB2, 0xB3]
    (f.getD 0 0, f.getD 1 0, f.getD 2 0, f.getD 3 0xEE, f.getD 16 0) = (0xFF, 0xA1, 0xA2, 0x00, 0xA3)
      ∧ (g.getD 0 0, g.getD 1 0, g.getD 2 0, g.getD 16 0) = (0x9B, 0xB1, 0xB2, 0xB3)
      ∧ slotZero 0x1B true false = 0xDF := by decide +kernel

/-- R56, R118, R142, R98, R72, R71, R174, R128, R165: the data lengths of the reading commands. -/
theorem test_result_lengths :
    (collectData ⟨[⟨.reference, .referenceState, 1, 0, 0⟩], false⟩).length = 12
      ∧ (timingData .reset 0 .cp0).length = 35 ∧ (delayData .reset 0 .cp0).length = 52
      ∧ (playoutData .reset 0 0).length = 30 ∧ (circuitPathData .reset 0).length = 25
      ∧ (pathData (.reset true) .x).length = 11 ∧ (circuitCounterData .reset 0 .x).length = 54
      ∧ (pathCounterData (.reset true) .x).length = 17 ∧ (referenceData .reset).length = 18
      ∧ (supervisionData (.reset 0) 0).length = 22 ∧ (circuitData .reset 0 2048).length = 19 := by decide +kernel

/-- R157, the worked sequence of section 10.8: seed 1A2Bh with key 5A5Ah, and the two challenges that follow. -/
theorem test_answers :
    expectedAnswer 0x1A2B 0x5A5A = 0x4071BF8E ∧ expectedAnswer 0x3456 0x5A5A = 0x6E0C91F3
      ∧ expectedAnswer 0x68AD 0x5A5A = 0x32F7CD08 := by decide +kernel

/-- Section 4.9: from 15, five head takes without a copy on X leave 5, DEGRADED; USABLE again at 12. -/
theorem test_failover_counts :
    stepCount .reset false 7 = 5 ∧ judgeStatus .reset 7 false = false ∧ judgeStatus .reset 5 false = true
      ∧ judgeStatus .reset 11 true = true ∧ judgeStatus .reset 12 true = false ∧ stepCount .reset true 15 = 15 := by decide +kernel

/-- A row spells no word; a command of the queue runs. -/
theorem test_no_word_spells_a_row : decodeTableWord 16 0x1234 = none := rfl

/-! ### Witnesses: the queue, time and reset -/

theorem witness_StepOnEmptyQueue :
    (State.reset.pending = [] ∧ State.reset.due = [])
      ∧ (let s : State := { State.reset with startUpFrom := some 0, localTime := 10000 }
         s.pending = [] ∧ s.due = [.startUpEnd])
      ∧ (let s : State := { State.reset with startUpFrom := some 0, localTime := 10000,
                                             ref := { RefMonitor.reset with absenceTimer := some 0 } }
         s.pending = [] ∧ 1 < s.due.length) := by decide +kernel

/-- The state of one clock of the part at an instant, with nothing else running. -/
def at_ (now : Time) (f : Circuit → Circuit) : State := { c0 f with localTime := now }

/-- What is due at the instant each rule gives, and not one unit before it (R22, R93, R123, R131, R144, R161, R164). -/
theorem test_due_at_its_instant :
    (let s (now : Time) : State := { State.reset with startUpFrom := some 1, localTime := now }
     (s 10000).due = [] ∧ (s 10001).due = [.startUpEnd])
      ∧ (let s (now : Time) : State :=
           { u0 fun u => { u with state := .awaitAnswer, windowTimer := some 0 } with localTime := now }
         (s 1499999).due = [] ∧ (s 1500000).due = [.windowTimerExpiry .cp0])
      ∧ (let s (now : Time) : State := { u0 fun u => { u with crstTimer := some 0 } with localTime := now }
         (s 99999).due = [] ∧ (s 100000).due = [.crstTimerExpiry .cp0])
      ∧ (let s (now : Time) : State := { State.reset with ref := { RefMonitor.reset with absenceTimer := some 0 }, localTime := now }
         (s 99).due = [] ∧ (s 100).due = [.absenceExpiry])
      ∧ (let s (now : Time) : State := at_ now fun v => { v with
           layout := some lay, state := .acquiring, cursor := { v.cursor with acqTimer := some 0 } }
         (s 4999999).due = [] ∧ (s 5000000).due = [.acquisitionTimerExpiry 0])
      ∧ (let s (phase : Nat) : State := c0 fun v => { v with line := { v.line with rxPhase := phase } }
         (s 19999).due = [] ∧ (s 20000).due = [.receiveClockLoss 0])
      ∧ (let s (phase : Nat) : State := c0 fun v => { v with line := { v.line with crystal := true, rxPhase := phase } }
         (s 9999).due = [] ∧ (s 10000).due = [.receiveBitPeriod 0 false]) := by decide +kernel

/-! ### Witnesses: attention -/

/-- Forty-eight records of different source or kind. -/
def fullQueue : List AttnRecord :=
  [AttnKind.lineAlarm, .underrun, .overrun].flatMap fun k => (List.finRange 16).map fun c => ⟨.circuit c, k, 1, 0, 0⟩

theorem witness_AttentionPostTaken :
    (let u : AttnUnit := ⟨[⟨.reference, .referenceState, 255, 0, 0⟩], false⟩
     (∃ r ∈ u.queue, r.source = .reference ∧ r.kind = .referenceState) ∧ u.queue[0]? = some ⟨.reference, .referenceState, 255, 0, 0⟩)
      ∧ (let u : AttnUnit := ⟨fullQueue, false⟩
         (∀ r ∈ u.queue, ¬(r.source = .reference ∧ r.kind = .referenceState)) ∧ 48 ≤ u.queue.length)
      ∧ (let u : AttnUnit := ⟨fullQueue.drop 1, false⟩
         (∀ r ∈ u.queue, ¬(r.source = .reference ∧ r.kind = .referenceState)) ∧ u.queue.length < 48) := by decide +kernel

theorem witness_CollectAttentionReturns :
    (let s := sent (State.reset.setAttn .cp0 ⟨fullQueue, true⟩) 0x08 []
     s.frameAtOwner .cp0 0x08 [] ∧ AttentionSound s ∧ (s.attnUnit .cp0).queue.take 8 ≠ [])
      ∧ (sent State.reset 0x08 [0x00]).frameAtOwner .cp0 0x08 [0x00] := by
  refine ⟨⟨rfl, ?_, by decide +kernel⟩, rfl⟩
  intro p
  cases p
  · show fullQueue.length ≤ 48 ∧ _ ∧ _
    decide +kernel
  · show ([] : List AttnRecord).length ≤ 48 ∧ _ ∧ _
    decide +kernel

/-- The oldest record is returned with its count and the marker clears (section 3.7, R56). -/
theorem test_collect_attention :
    after (.collectAttention .cp0) (sent (State.reset.setAttn .cp0 ⟨[⟨.path .y, .pathHealth, 3, 0x0102, 0x01020304⟩], true⟩) 0x08 [])
        (fun t => (answer t, t.attn.cp0.overflow, t.attn.cp0.queue.length)) =
      some (some [0x00, 12, 0x01, 0x00, 0x01, 0x11, 0x07, 0x03, 0x01, 0x02, 0x01, 0x02, 0x03, 0x04], false, 0) := by decide +kernel

/-! ### Witnesses: control ports -/

def writeT : Transaction := ⟨some .write, .command, 0x00, true, false, false⟩

theorem witness_TransactionStartFixesContext :
    (let s := (p0 id).settlePort .cp0
     s.resetAsserted = false ∧ (s.port .cp0).transaction = none)
      ∧ (State.reset.settlePort .cp0).resetAsserted = true := by decide +kernel

theorem witness_OutputOctetsConsumed :
    (let s := p0 fun u => { u with framing := true, transaction := some { writeT with status := 0x27, statusSent := false } }
     ∃ t, (s.port .cp0).transaction = some t ∧ t.statusSent = false ∧ t.status.getLsbD 5 = true)
      ∧ (let s := p0 fun u => { u with phase := .result, result := some [0x00, 0x00], readPos := 0,
                                       transaction := some { writeT with phaseAtStart := .result } }
         ∃ t, (s.port .cp0).transaction = some t ∧ t.statusSent = true ∧ t.phaseAtStart = .result ∧ t.voided = false
           ∧ (s.port .cp0).result = some [0x00, 0x00] ∧ (s.port .cp0).readPos + 1 < 2)
      ∧ (let s := p0 fun u => { u with phase := .result, result := some [0x00, 0x00], readPos := 1,
                                       transaction := some { writeT with phaseAtStart := .result } }
         ∃ t, (s.port .cp0).transaction = some t ∧ t.statusSent = true ∧ t.phaseAtStart = .result ∧ t.voided = false
           ∧ (s.port .cp0).result = some [0x00, 0x00] ∧ (s.port .cp0).readPos + 1 = 2)
      ∧ State.reset.resetAsserted = true
      ∧ ((p0 id).resetAsserted = false ∧ ((p0 id).port .cp0).transaction = none)
      ∧ (let t : Transaction := { writeT with phaseAtStart := .result, voided := true }
         ((p0 fun u => { u with transaction := some t }).port .cp0).transaction = some t ∧ t.statusSent = true ∧ t.voided = true) := by
  refine ⟨⟨_, rfl, rfl, rfl⟩, ⟨_, rfl, rfl, rfl, rfl, rfl, by decide⟩, ⟨_, rfl, rfl, rfl, rfl, rfl, by decide⟩, rfl, ⟨rfl, rfl⟩,
    ⟨rfl, rfl, rfl⟩⟩

/-- R145, R146, R151: what CDO carries, from a pending result 00h, 01h, A5h with one octet already taken. -/
theorem test_cdo_octets :
    let t : Transaction := { writeT with phaseAtStart := .result, status := 0x87 }
    let s (t : Transaction) : State := p0 fun u => { u with phase := .result, result := some [0x00, 0x01, 0xA5], readPos := 1,
                                                            transaction := some t }
    (p0 id).cdoOctet .cp0 = 0xFF ∧ (s { t with statusSent := false }).cdoOctet .cp0 = 0x87 ∧ (s t).cdoOctet .cp0 = 0x01
      ∧ (s { t with voided := true }).cdoOctet .cp0 = 0x00 ∧ (s { t with phaseAtStart := .executing }).cdoOctet .cp0 = 0x00 := by
  decide +kernel

/-- A state of CP0 with a transaction in progress. -/
def inT (t : Transaction) : State := (p0 fun u => { u with transaction := some t }).settlePort .cp0

theorem witness_WrittenOctetTaken :
    (((inT { writeT with access := none }).port .cp0).transaction = some { writeT with access := none })
      ∧ (((inT { writeT with access := some .read }).port .cp0).transaction = some { writeT with access := some .read })
      ∧ (((inT { writeT with voided := true }).port .cp0).transaction = some { writeT with voided := true })
      ∧ (((inT { writeT with phaseAtStart := .startUp }).port .cp0).transaction = some { writeT with phaseAtStart := .startUp })
      ∧ (((inT writeT).port .cp0).transaction = some writeT ∧ writeT.voided = false ∧ writeT.frameTaken = false)
      ∧ (((inT { writeT with phaseAtStart := .executing }).port .cp0).transaction = some { writeT with phaseAtStart := .executing })
      ∧ (((inT { writeT with phaseAtStart := .result }).port .cp0).transaction = some { writeT with phaseAtStart := .result })
      ∧ (((inT { writeT with frameTaken := true }).port .cp0).transaction = some { writeT with frameTaken := true }) := by decide +kernel

/-- R145: 01h makes a write transaction, any other access octet a read transaction. -/
theorem test_access_octet :
    after (.writtenOctet .cp0 0x01) (inT { writeT with access := none }) (fun t => ((t.port .cp0).transaction.bind (·.access)))
        = some (some .write)
      ∧ after (.writtenOctet .cp0 0x81) (inT { writeT with access := none })
          (fun t => ((t.port .cp0).transaction.bind (·.access))) = some (some .read) := by decide +kernel

theorem witness_TransactionEndDiscardsPartial :
    (((inT writeT).port .cp0).transaction.isSome = true ∧ ((inT writeT).port .cp0).partialFrame = [])
      ∧ (let s := (p0 fun u => { u with transaction := some writeT, partialFrame := [0x14, 0x09] }).settlePort .cp0
         (s.port .cp0).transaction.isSome = true ∧ (s.port .cp0).partialFrame ≠ []) := by decide +kernel

theorem witness_CompleteFrameHandedOn :
    (let s := p0 fun u => { u with partialFrame := [0x12, 0x01] }
     (s.port .cp0).phase = .command ∧ ¬(0x01#8).toNat ≤ [].length (α := Octet) ∧ (s.port .cp0).partialFrame = [0x12, 0x01])
    ∧
    let s (code : Octet) (orphan : Bool) : State :=
      p0 fun u => { u with transaction := some writeT, partialFrame := code :: octet 1 :: [0x02], orphan := orphan }
    (((s 0x07 false).port .cp0).phase = .command ∧ ((s 0x07 false).port .cp0).partialFrame = 0x07 :: octet 1 :: [0x02]
        ∧ commandOf 0x07 .cp0 = none)
      ∧ (commandOf 0x1A .cp0 ≠ none ∧ ((s 0x1A true).port .cp0).orphan = true ∧ ((s 0x1A true).port .cp0).phase = .command)
      ∧ (commandOf 0x12 .cp0 ≠ none ∧ ((s 0x12 false).port .cp0).orphan = false ∧ privileged 0x12 = true
          ∧ (s 0x12 false).holder ≠ some .cp0)
      ∧ (commandOf 0x1A .cp0 ≠ none ∧ ((s 0x1A false).port .cp0).orphan = false ∧ privileged 0x1A = false)
      ∧ (commandOf 0x12 .cp0 ≠ none ∧ (((s 0x12 false).setHolder (some .cp0)).port .cp0).orphan = false
          ∧ ((s 0x12 false).setHolder (some .cp0)).holder = some .cp0)
      ∧ [0x02].length ≤ 255 := by decide +kernel

theorem witness_ResultArrivalTaken :
    let back (u : PortUnit → PortUnit) : State := (p0 u).setTransit .cp0 (some (.returning [0x00, 0x00]))
    let f : CommandFrame := ⟨0x12, [0x00]⟩
    (let s := back fun u => { u with phase := .executing, inFlight := some f }
     s.transit.get .cp0 = some (.returning [0x00, 0x00]) ∧ (s.port .cp0).orphan = false ∧ (s.port .cp0).phase = .executing
       ∧ (s.port .cp0).inFlight.isSome = true)
      ∧ (let s := back fun u => { u with orphan := true }
         s.transit.get .cp0 = some (.returning [0x00, 0x00]) ∧ (s.port .cp0).orphan = true ∧ (s.port .cp0).waiting = none)
      ∧ (let s := back fun u => { u with phase := .executing, orphan := true, waiting := some f }
         s.transit.get .cp0 = some (.returning [0x00, 0x00]) ∧ (s.port .cp0).orphan = true ∧ (s.port .cp0).waiting = some f) := by
  decide +kernel

theorem witness_StartUpAfterRelease :
    State.reset.resetAsserted = true
      ∧ (let s : State := { State.reset with resetAsserted := false, startUpFrom := some 0xFFFFFFFF, localTime := 9999 }
         s.startUpFrom = some 0xFFFFFFFF ∧ 10000 ≤ (s.localTime - 0xFFFFFFFF).toNat ∧ (s.port .cp0).phase = .startUp)
      ∧ (let s := (p0 id : State)
         (s.port .cp0).phase ≠ .startUp) := by decide +kernel

theorem witness_ControllerResetAtPort :
    let f : CommandFrame := ⟨0x12, [0x00]⟩
    (((p0 fun u => { u with partialFrame := [0x12] }).settlePort .cp0).port .cp0).phase = .command
      ∧ (let u := ((p0 fun u => { u with phase := .executing, inFlight := some f }).settlePort .cp0).port .cp0
         u.phase = .executing ∧ u.waiting = none ∧ u.inFlight.isSome = true)
      ∧ (let u := ((p0 fun u => { u with phase := .executing, orphan := true, waiting := some f }).settlePort .cp0).port .cp0
         u.phase = .executing ∧ u.waiting.isSome = true)
      ∧ (((p0 fun u => { u with phase := .result, result := some [] }).settlePort .cp0).port .cp0).phase = .result := by
  decide +kernel

/-! ### Witnesses: supervision and authority -/

def strictSet : SupSettings := { SupSettings.reset with strict := true }

/-- A frame for the supervision unit of CP0 at a local time, with the window timer started at 0. -/
def sup (code : Octet) (ps : List Octet) (now : Time) (f : SupUnit → SupUnit) : State :=
  { sent (u0 fun u => f { u with windowTimer := some 0 }) code ps with localTime := now }

theorem witness_StandingSteps :
    (SupUnit.reset 0).eligible = false ∧ ({ SupUnit.reset 0 with eligible := true } : SupUnit).eligible = true
      ∧ (SupUnit.reset 0).windowTimer = none
      ∧ ({ SupUnit.reset 0 with windowTimer := some 7 } : SupUnit).windowTimer = some 7 := ⟨rfl, rfl, rfl, rfl⟩

/-- R158, with local time wrapping between start and judgement: 20 ms have passed. -/
theorem test_window_elapsed :
    ({ SupUnit.reset 0 with windowTimer := some 0xFFFFFFFF } : SupUnit).windowElapsed 199999 = 200000
      ∧ judgeWindow 20 100 200000 = .inside ∧ judgeWindow 20 100 199999 = .early := by decide +kernel

theorem witness_FetchChallengeServed :
    (sup 0x01 [0x00] 0 id).frameAtOwner .cp0 0x01 [0x00]
      ∧ ((sup 0x01 [] 0 id).frameAtOwner .cp0 0x01 [] ∧ ((sup 0x01 [] 0 id).supUnit .cp0).state = .idle)
      ∧ (let s := sup 0x01 [] 0 fun u => { u with state := .awaitFetch }
         s.frameAtOwner .cp0 0x01 [] ∧ (s.supUnit .cp0).state = .awaitFetch ∧ (s.supUnit .cp0).settings.strict = false)
      ∧ (let s := sup 0x01 [] 200000 fun u => { u with state := .awaitFetch, settings := strictSet }
         s.frameAtOwner .cp0 0x01 [] ∧ (s.supUnit .cp0).settings.strict = true
           ∧ judgeWindow (s.supUnit .cp0).settings.fetchOpen (s.supUnit .cp0).settings.fetchClose
               ((s.supUnit .cp0).windowElapsed s.localTime) = .inside)
      ∧ (let s := sup 0x01 [] 199999 fun u => { u with state := .awaitFetch, settings := strictSet }
         s.frameAtOwner .cp0 0x01 [] ∧ (s.supUnit .cp0).settings.strict = true
           ∧ judgeWindow (s.supUnit .cp0).settings.fetchOpen (s.supUnit .cp0).settings.fetchClose
               ((s.supUnit .cp0).windowElapsed s.localTime) = .early)
      ∧ (let s := sup 0x01 [] 1000001 fun u => { u with state := .awaitFetch, settings := strictSet }
         s.frameAtOwner .cp0 0x01 [] ∧ (s.supUnit .cp0).settings.strict = true
           ∧ judgeWindow (s.supUnit .cp0).settings.fetchOpen (s.supUnit .cp0).settings.fetchClose
               ((s.supUnit .cp0).windowElapsed s.localTime) = .late)
      ∧ (let s := sup 0x01 [] 0 fun u => { u with state := .awaitAnswer }
         s.frameAtOwner .cp0 0x01 [] ∧ (s.supUnit .cp0).state = .awaitAnswer) := by decide +kernel

/-- The first fetch after reset answers with the seed and starts supervision (R157, R159). -/
theorem test_first_fetch :
    after (.fetchChallenge .cp0) (sent State.reset 0x01 []) (fun t => (answer t, (t.supUnit .cp0).state)) =
      some (some [0x00, 0x02, 0x1A, 0x2B], .awaitAnswer) := by decide +kernel

theorem witness_SubmitAnswerServed :
    let s (now : Time) (a : BitVec 32) (state : SupState) : State :=
      sup 0x02 (answerParams a) now fun u => { u with state := state, settings := { u.settings with key := 0x5A5A } }
    let judged (t : State) : WindowJudgement :=
      judgeWindow (t.supUnit .cp0).settings.answerOpen (t.supUnit .cp0).settings.answerClose
        ((t.supUnit .cp0).windowElapsed t.localTime)
    ((sup 0x02 [] 0 id).frameAtOwner .cp0 0x02 [] ∧ ([] : List Octet).length ≠ 4)
      ∧ ((s 0 0 .idle).frameAtOwner .cp0 0x02 (answerParams 0) ∧ ((s 0 0 .idle).supUnit .cp0).state = .idle
          ∧ (answerParams 0).length = 4)
      ∧ ((s 0 0 .awaitFetch).supUnit .cp0).state = .awaitFetch
      ∧ (((s 199999 0 .awaitAnswer).supUnit .cp0).state = .awaitAnswer ∧ judged (s 199999 0 .awaitAnswer) = .early)
      ∧ judged (s 1000001 0 .awaitAnswer) = .late
      ∧ (judged (s 1000000 0 .awaitAnswer) = .inside ∧ (0 : BitVec 32) ≠ expectedAnswer 0x1A2B 0x5A5A)
      ∧ (judged (s 200000 0x4071BF8E .awaitAnswer) = .inside ∧ (0x4071BF8E : BitVec 32) = expectedAnswer 0x1A2B 0x5A5A) := by
  decide +kernel

theorem fetch_answers_next (s : State) : ∃ t : State, exec (.fetchChallenge .cp0) s = .next t := ⟨_, rfl⟩

theorem witness_ChallengeRegisterAdvances :
    (∃ t, exec (.fetchChallenge .cp0) (sup 0x01 [] 0 fun u => { u with state := .awaitFetch, answerCorrect := true }) = .next t)
      ∧ challengeAdvance 0x8000 ≠ challengeAdvance 0x4000 ∧ (1 : BitVec 16) ≠ 0
      ∧ (let s := sup 0x02 (answerParams 0x4071BF8E) 1000000 fun u =>
           { u with state := .awaitAnswer, settings := { u.settings with key := 0x5A5A } }
         s.frameAtOwner .cp0 0x02 (answerParams 0x4071BF8E) ∧ (s.supUnit .cp0).state = .awaitAnswer
           ∧ judgeWindow 20 100 ((s.supUnit .cp0).windowElapsed s.localTime) = .inside) :=
  ⟨fetch_answers_next _, by decide, by decide, by decide +kernel⟩

theorem witness_ConfigureSupervisionServed :
    let t : SupSettings := { SupSettings.reset with answerOpen := 0, fetchOpen := 99 }
    let s (set : SupSettings) (state : SupState) : State := sup 0x04 (supervisionParams set) 0 fun u => { u with state := state }
    ((sup 0x04 [] 0 id).frameAtOwner .cp0 0x04 [] ∧ ([] : List Octet).length ≠ 15)
      ∧ (t.inRange = true ∧ (s t .idle).frameAtOwner .cp0 0x04 (supervisionParams t) ∧ ((s t .idle).supUnit .cp0).state = .idle)
      ∧ (strictSet.inRange = true ∧ ((s strictSet .awaitFetch).supUnit .cp0).state ≠ .idle
          ∧ { strictSet with answerOpen := 20, fetchOpen := 20 } ≠ ((s strictSet .awaitFetch).supUnit .cp0).settings)
      ∧ ((s .reset .awaitFetch).supUnit .cp0).settings = .reset
      ∧ (t ≠ ((s t .awaitFetch).supUnit .cp0).settings
          ∧ { t with answerOpen := 20, fetchOpen := 20 } = ((s t .awaitFetch).supUnit .cp0).settings) := by decide +kernel

theorem witness_SupervisionTimersExpire :
    (let s := sup 0x00 [] 1500000 fun u => { u with state := .awaitAnswer }
     (s.supUnit .cp0).windowTimer = some 0 ∧ (s.supUnit .cp0).state = .awaitAnswer
       ∧ ((s.supUnit .cp0).settings.answerClose + (s.supUnit .cp0).settings.answerGrace) * 10000 ≤ (s.localTime - 0).toNat)
      ∧ (let s := sup 0x00 [] 1500000 fun u => { u with state := .awaitFetch }
         (s.supUnit .cp0).windowTimer = some 0 ∧ (s.supUnit .cp0).state = .awaitFetch
           ∧ ((s.supUnit .cp0).settings.fetchClose + (s.supUnit .cp0).settings.fetchGrace) * 10000 ≤ (s.localTime - 0).toNat)
      ∧ (let s := sup 0x00 [] 100000 fun u => { u with crstTimer := some 0 }
         (s.supUnit .cp0).crstTimer = some 0 ∧ 100000 ≤ (s.localTime - 0).toNat) := by decide +kernel

/-- Section 10.8: a timeout with reset on timeout sets ANSWER_TIMEOUT and CONTROLLER_RESET, and standing falls from 5 to 3. -/
theorem test_timeout_resets :
    after (.windowTimerExpiry .cp0)
        (sup 0x00 [] 1500000 fun u => { u with state := .awaitAnswer, settings := { u.settings with resetOnTimeout := true } })
        (fun t => ((t.supUnit .cp0).flags, (t.supUnit .cp0).standing, (t.supUnit .cp0).state, t.crstLow .cp0)) =
      some (0x0440, 3, .idle, true) := by decide +kernel

theorem witness_AuthorityTakenAndYielded :
    let s (holder : Option Port) (eligible : Bool) : State := (u0 fun u => { u with eligible := eligible }).setHolder holder
    ((sent (s none false) 0x05 [0x00]).frameAtOwner .cp0 0x05 [0x00])
      ∧ ((sent (s (some .cp0) true) 0x05 []).frameAtOwner .cp0 0x05 [] ∧ (s (some .cp0) true).holder = some .cp0)
      ∧ ((s none false).holder ≠ some .cp0 ∧ ((s none false).supUnit .cp0).eligible = false)
      ∧ ((s (some .cp1) true).holder = some (Port.cp0).other ∧ ((s (some .cp1) true).supUnit .cp0).eligible = true)
      ∧ ((s none true).holder = none ∧ ((s none true).supUnit .cp0).eligible = true)
      ∧ ((sent (s none true) 0x06 []).frameAtOwner .cp0 0x06 [] ∧ (s none true).holder ≠ some .cp0)
      ∧ (sent (s none true) 0x06 [0x01]).frameAtOwner .cp0 0x06 [0x01] := by decide +kernel

theorem witness_ReadSupervisionReports :
    (sent State.reset 0x03 []).frameAtOwner .cp0 0x03 [] ∧ (sent State.reset 0x03 [0x00]).frameAtOwner .cp0 0x03 [0x00] := by
  decide +kernel

/-! ### Witnesses: the circuit table -/

theorem witness_NeededBlocks :
    lay.wellFormed = true ∧ lay.mode = .structured ∧ layU.mode = .unstructured ∧ lay.octetsPerFrame = 3 ∧ lay.k = 4
      ∧ ({ lay with slots := [5], fpp := 1, k := 2 } : Layout).octetsPerFrame = 1 ∧ layU.octetsPerFrame = 32
      ∧ ({ lay with slots := (List.range 30).map (· + 1) } : Layout).octetsPerFrame = 30 := by decide +kernel

theorem witness_ParametersRead :
    lay.wellFormed = true ∧ openLengthOk (openParams 12 lay) ∧ PathSettings.reset.inRange = true
      ∧ ProbeSettings.reset.inRange = true ∧ PlayoutSettings.reset.inRange = true ∧ SupSettings.reset.inRange = true
      ∧ ({ TimingSettings.reset with lim := 4294967295 } : TimingSettings).carried = true
      ∧ counterObject (.path .y) .x = true ∧ individual 0x010000000000 = false ∧ individual 0x020000000001 = true
      ∧ (parseSetTiming (setTimingParams 0 .reset)).toOption = some (0, .reset) := by
  refine ⟨by decide, ⟨by decide, 0x03, by decide, by decide⟩, ?_⟩
  decide +kernel

theorem witness_BadFramesRefused :
    ((sent State.reset 0x12 []).frameAtOwner .cp0 0x12 [] ∧ ([] : List Octet).length ≠ 1)
      ∧ ((sent State.reset 0x12 [0x10]).frameAtOwner .cp0 0x12 [0x10] ∧ [(0x10 : Octet)].length = 1
          ∧ ∀ c : CircuitId, [(0x10 : Octet)] ≠ circuitParams c) := by decide +kernel

/-- The state of the three refusals and the acceptance of Open Circuit for circuit 12. -/
def toOpen (f : State → State) : State := sent (f State.reset) 0x10 (openParams 12 lay)

theorem witness_OpenCircuitServed :
    lay.wellFormed = true
      ∧ (let s := toOpen fun s => s.setCircuit 12 { Circuit.reset with state := .hold }
         s.frameAtOwner .cp0 0x10 (openParams 12 lay) ∧ (s.circuit 12).state ≠ .closed)
      ∧ (let s := toOpen fun s => s.setCircuit 0 { Circuit.reset with layout := some lay, state := .hold }
         (s.circuit 12).state = .closed
           ∧ ¬∀ d : CircuitId, d ≠ 12 → (s.circuit d).state ≠ .closed → (s.circuit d).layoutD.remoteTag ≠ lay.remoteTag)
      ∧ (let s := toOpen fun s => s.setFreeBlocks 0
         (s.circuit 12).state = .closed ∧ s.freeBlocks < lay.neededBlocks
           ∧ ∀ d : CircuitId, d ≠ 12 → (s.circuit d).state ≠ .closed → (s.circuit d).layoutD.remoteTag ≠ lay.remoteTag)
      ∧ (let s := toOpen fun s => s.setFreeBlocks 1
         (s.circuit 12).state = .closed ∧ lay.neededBlocks ≤ s.freeBlocks
           ∧ ∀ d : CircuitId, d ≠ 12 → (s.circuit d).state ≠ .closed → (s.circuit d).layoutD.remoteTag ≠ lay.remoteTag) := by
  decide +kernel

/-- Section 3.5: the needed blocks of the example are 1 and the result is 00h, 00h; the circuit is ACQUIRING with LOA. -/
theorem test_open_example :
    after (.openCircuit .cp0) (toOpen id) (fun t =>
        (answer t, (t.circuit 12).state, t.freeBlocks, (t.attn.cp1.queue.map fun r => (r.kind, r.latest)))) =
      some (some [0x00, 0x00], .acquiring, 2047, [(.lineAlarm, 0x0004), (.circuitState, 0x0001)]) := by decide +kernel

/-- A SINGLE circuit whose preferred path is DOWN opens on the other path (R65). -/
theorem test_open_moves_at_once :
    after (.openCircuit .cp0)
        (toOpen fun s => (s.setCircuit 12 { Circuit.reset with pathSet := { PathSettings.reset with mode := .single } }).setPath .y
          (.reset true))
        (fun t => ((t.circuit 12).health.active, t.attn.cp0.queue.map fun r => (r.kind, r.latest))) =
      some (.y, [(.txPathChange, 0x0001), (.lineAlarm, 0x0004), (.circuitState, 0x0001)]) := by decide +kernel

/-- A ring with one packet stored at sequence number 40. -/
def holding (state : CState) (f : Circuit → Circuit) : State :=
  open0 lay state fun v => f { v with
    cursor := { v.cursor with head := some 40, hi := some 40, filledCount := 1 },
    ring := v.ring.set 8 ⟨.filled, 40, [[0xA1, 0xA2, 0xA3], [0xB1, 0xB2, 0xB3]], false, false, ⟨true, false⟩, 0⟩ }

/-- The same ring in RUNNING with an underrun request of head 41 that waits behind these Close Circuits. -/
def underran (closes : PerPort Bool) : State :=
  holding .running fun v => { v with requests := { v.requests with underrun := some ⟨41, closes⟩ } }

def closeShown (t : State) : CState × List (AttnKind × BitVec 16) :=
  ((t.circuit 0).state, t.attn.cp0.queue.map fun r => (r.kind, r.latest))

theorem witness_CircuitEntersClosed :
    (let s := sent (holding .running id) 0x11 (closeParams 0 0)
     s.frameAtOwner .cp0 0x11 (closeParams 0 0) ∧ (s.circuit 0).state ≠ .closed ∧ (s.circuit 0).requests.underrun = none)
      ∧ (let s := sent (underran ⟨false, true⟩) 0x11 (closeParams 0 20)
         s.frameAtOwner .cp0 0x11 (closeParams 0 20) ∧ (s.circuit 0).state = .running
           ∧ (s.circuit 0).requests.underrun = some ⟨41, ⟨false, true⟩⟩ ∧ (⟨false, true⟩ : PerPort Bool).get .cp0 = false)
      ∧ (let s := sent (underran ⟨true, false⟩) 0x11 (closeParams 0 0)
         s.frameAtOwner .cp0 0x11 (closeParams 0 0) ∧ (s.circuit 0).requests.underrun = some ⟨41, ⟨true, false⟩⟩
           ∧ (⟨true, false⟩ : PerPort Bool).get .cp0 = true)
      ∧ (let s := sent (open0 lay .hold id) 0x11 (closeParams 0 255)
         s.frameAtOwner .cp0 0x11 (closeParams 0 255) ∧ (s.circuit 0).cursor.filledCount = 0)
      ∧ (let s := open0 lay .closing fun v => { v with requests := { v.requests with drainComplete := true }, drainRemaining := 1 }
         (s.circuit 0).requests.drainComplete = true ∧ (s.circuit 0).state = .closing)
      ∧ (let s := holding .closing id
         (s.circuit 0).state = .closing ∧ (s.circuit 0).drainRemaining = 0) := by decide +kernel

/-- R99, R20: the take came before Close Circuit reached the circuit table. The underrun is first: CLOSED at once. -/
theorem test_close_after_the_take_that_underran :
    after (.closeCircuit .cp0) (sent (underran ⟨false, true⟩) 0x11 (closeParams 0 20)) closeShown =
      some (.closed, [(.circuitState, 0x0100), (.underrun, 41)]) := by decide +kernel

/-- R20: Close Circuit had reached the table before the request: CLOSING, and the request has no effect. -/
theorem test_close_before_the_request :
    after (.closeCircuit .cp0) (sent (underran ⟨true, false⟩) 0x11 (closeParams 0 20)) closeShown =
      some (.closing, [(.circuitState, 0x0204)]) := by decide +kernel

/-- A take that raises the request while Close Circuit of CP0 waits with the circuit table notes it. -/
theorem test_take_notes_the_close_at_the_table :
    (((sent (open0 lay .running fun v =>
        { v with cursor := { v.cursor with head := some 40, missingRun := lay.lossThreshold - 1 } }) 0x11 (closeParams 0 20)).takeIfDue
          0 40).circuit 0).requests.underrun = some ⟨40, ⟨true, false⟩⟩ := by decide +kernel

/-- R15: without a take that underran, the same Close starts the drain. -/
theorem test_close_starts_the_drain :
    after (.closeCircuit .cp0) (sent (holding .running id) 0x11 (closeParams 0 20))
        (fun t => ((t.circuit 0).state, (t.circuit 0).drainRemaining)) = some (.closing, 20) := by decide +kernel

theorem witness_CloseHoldResumeServed :
    ((sent State.reset 0x11 (closeParams 0 1)).frameAtOwner .cp0 0x11 (closeParams 0 1)
        ∧ ((sent State.reset 0x11 (closeParams 0 1)).circuit 0).state = .closed)
      ∧ (let v := (sent (holding .acquiring id) 0x11 (closeParams 0 1)).circuit 0
         v.state ≠ .closed ∧ v.state ≠ .closing ∧ v.cursor.filledCount ≠ 0 ∧ v.cursor.head ≠ none ∧ v.state ≠ .running)
      ∧ (let v := (sent (holding .closing id) 0x11 (closeParams 0 255)).circuit 0
         v.state = .closing ∧ v.cursor.filledCount ≠ 0 ∧ v.cursor.head ≠ none)
      ∧ ((sent (holding .running id) 0x12 (circuitParams 0)).frameAtOwner .cp0 0x12 (circuitParams 0)
          ∧ ((holding .running id).circuit 0).state = .running)
      ∧ (((holding .acquiring id).circuit 0).state = .acquiring ∧ ((holding .acquiring id).circuit 0).holdBarrier = false)
      ∧ (let v := (holding .acquiring fun v => { v with holdBarrier := true }).circuit 0
         ¬(v.state = .running ∨ (v.state = .acquiring ∧ v.holdBarrier = false)))
      ∧ ((sent (open0 lay .hold id) 0x13 (circuitParams 0)).frameAtOwner .cp0 0x13 (circuitParams 0)
          ∧ ((open0 lay .hold id).circuit 0).state = .hold)
      ∧ ((open0 lay .running id).circuit 0).state ≠ .hold := by decide +kernel

theorem witness_PlayoutRequestsTaken :
    let req (state : CState) (r : Requests) : Circuit := (open0 lay state fun v => { v with requests := r }).circuit 0
    ((req .acquiring ⟨true, none, none, false⟩).requests.acquisitionComplete = true)
      ∧ ((req .hold ⟨true, none, none, false⟩).state ≠ .acquiring)
      ∧ ((req .running ⟨false, some ⟨42, .both false⟩, none, false⟩).requests.underrun = some ⟨42, .both false⟩ ∧ (req .running .reset).state = .running)
      ∧ ((req .hold ⟨false, some ⟨42, .both false⟩, none, false⟩).state ≠ .running)
      ∧ ((req .running ⟨false, none, some 7, false⟩).requests.overrun = some 7)
      ∧ ((req .hold ⟨false, none, some 7, false⟩).requests.overrun = some 7)
      ∧ ((req .hold ⟨false, none, none, true⟩).requests.drainComplete = true ∧ (req .hold .reset).state ≠ .closing)
      ∧ (let s : State := { open0 lay .acquiring fun v => { v with cursor := { v.cursor with acqTimer := some 0 } } with
                              localTime := 5000000 }
         (s.circuit 0).cursor.acqTimer = some 0 ∧ (s.circuit 0).requests.acquisitionComplete = false
           ∧ (s.circuit 0).layoutD.acqLimit * 100000 ≤ (s.localTime - 0).toNat) := by decide +kernel

/-- An underrun posts CIRCUIT_STATE 0201h and UNDERRUN with the head's number (R4, R91). -/
theorem test_underrun_posts :
    after (.underrun 0) (open0 lay .running fun v => { v with requests := { v.requests with underrun := some ⟨42, .both false⟩ } })
        (fun t => (t.attn.cp0.queue.map fun r => (r.kind, r.latest))) =
      some [(.circuitState, 0x0201), (.underrun, 42)] := by decide +kernel

theorem witness_ReadsReport :
    (sent State.reset 0x18 (circuitParams 15)).frameAtOwner .cp0 0x18 (circuitParams 15)
      ∧ (sent State.reset 0x19 (circuitParams 0)).frameAtOwner .cp0 0x19 (circuitParams 0)
      ∧ (sent State.reset 0x1B [objectOctet (.circuit 3)]).frameAtOwner .cp0 0x1B [objectOctet (.circuit 3)]
      ∧ (sent State.reset 0x1B [0x11]).frameAtOwner .cp0 0x1B [objectOctet (.path .y)]
      ∧ (sent State.reset 0x1D [0x0F, 0x01]).frameAtOwner .cp0 0x1D (readCountersParams (.circuit 15) .y)
      ∧ (sent State.reset 0x1D [0x10, 0x00]).frameAtOwner .cp0 0x1D (readCountersParams (.path .x) .x)
      ∧ (sent State.reset 0x21 []).frameAtOwner .cp0 0x21 [] := by decide +kernel

theorem witness_ClearingReadsReport :
    (sent State.reset 0x1A [0x02]).frameAtOwner .cp0 0x1A (circuitParams 2)
      ∧ (sent State.reset 0x1C [0x02]).frameAtOwner .cp0 0x1C (circuitParams 2) := by decide +kernel

/-- Section 6.10, flags seen from two ports: CP0 reads 03h and clears its own copies. -/
theorem test_read_timing_clears_own_copies :
    after (.readTiming .cp0)
        (sent (c0 fun v => { v with timing := { v.timing with integratorSat := ⟨true, true⟩, outputSat := ⟨true, true⟩ } })
          0x1A [0x00])
        (fun t => ((answer t).bind List.getLast?, (t.circuit 0).timing.integratorSat, (t.circuit 0).timing.outputSat)) =
      some (some 0x03, ⟨false, true⟩, ⟨false, true⟩) := by decide +kernel

/-! ### Witnesses: tributary lines and packetizer -/

def line0 (f : Line → Line) : State := c0 fun v => { v with line := f v.line }

/-- Circuit 0 open and STRUCTURED with its line. -/
def framed (f : Line → Line) : State := open0 lay .running fun v => { v with line := f v.line }

theorem witness_ReceiveClock :
    (let l := ((line0 fun l => { l with rxPhase := 19999 }).circuit 0).line
     l.crystal = false ∧ l.rxPhase < 20000)
      ∧ (let l := ((line0 fun l => { l with rxPhase := 20000 }).circuit 0).line
         l.crystal = false ∧ 20000 ≤ l.rxPhase)
      ∧ (let l := ((line0 fun l => { l with crystal := true, rxPhase := 9999 }).circuit 0).line
         l.crystal = true ∧ l.rxPhase < 10000)
      ∧ (let l := ((line0 fun l => { l with crystal := true, rxPhase := 10000 }).circuit 0).line
         l.crystal = true ∧ 10000 ≤ l.rxPhase)
      ∧ ((line0 id).circuit 0).lineDue = none := by decide +kernel

/-- A line on which LOS is to set, and nothing else; then it has set, and nothing is asked for: a chain of one step. -/
theorem witness_ReceiveClock_chain :
    let s := line0 fun l => { l with spaceRun := 2048 }
    LineStep.losSet.isNext (s.circuit 0) ∧ exec (LineStep.losSet.instr 0) s = .next (s.losSet 0)
      ∧ ∀ k : LineStep, ¬k.asked ((s.losSet 0).circuit 0) := by
  refine ⟨⟨by unfold LineStep.asked; decide +kernel, fun k h => ?_⟩, rfl, fun k => ?_⟩
  · cases k <;> exact absurd h (by decide)
  · cases k <;> unfold LineStep.asked <;> decide +kernel

/-- R21, R22: a mark of TRXD counts as it is; on the crystal the bit period is a space. -/
theorem test_bit_periods :
    after (.receiveBitPeriod 0 true) (line0 id) (fun t => ((t.circuit 0).line.period, (t.circuit 0).line.spaceRun)) =
        some ([true], 0)
      ∧ after (.receiveBitPeriod 0 true) (line0 fun l => { l with crystal := true, rxPhase := 10001 })
          (fun t => ((t.circuit 0).line.period, (t.circuit 0).line.spaceRun, (t.circuit 0).line.rxPhase)) =
        some ([false], 1, 1) := by decide +kernel

/-- R22: an edge after 20480 of 10000 silent phase counts the two silent bit periods and its own bit, whether the loss was noted before it or
not; and no space is counted before its bit period has passed. -/
theorem test_no_bit_period_is_lost :
    let seen (t : State) := ((t.circuit 0).line.crystal, (t.circuit 0).line.rxPhase, (t.circuit 0).line.rxCount, (t.circuit 0).line.period)
    after (.receiveClockReturn 0 true) (line0 fun l => { l with crystal := true, rxPhase := 20480 }) seen =
        some (false, 0, 3, [true, false, false])
      ∧ after (.receiveBitPeriod 0 true) (line0 fun l => { l with rxPhase := 20480 }) seen =
        some (false, 0, 3, [true, false, false])
      ∧ after (.receiveBitPeriod 0 false) (line0 fun l => { l with crystal := true, rxPhase := 9999 }) seen =
        some (true, 9999, 0, []) := by decide +kernel

theorem witness_LineAlarmsJudged :
    (let v := (framed id).circuit 0
     v.state ≠ .closed ∧ v.layoutD.mode = .structured ∧ v.line.framer = .search)
      ∧ (let v := (framed fun l => { l with framer := .aligned }).circuit 0
         ¬(v.state ≠ .closed ∧ v.layoutD.mode = .structured ∧ (v.line.framer = .search ∨ v.line.framer = .verify)))
      ∧ (let l := ((framed fun l => { l with spaceRun := 2048 }).circuit 0).line
         l.los = false ∧ 2048 ≤ l.spaceRun)
      ∧ (let l := ((framed fun l => { l with los := true, markPeriods := 8 }).circuit 0).line
         l.los = true ∧ 8 ≤ l.markPeriods)
      ∧ (let v := (framed fun l => { l with spanBits := 512, spanSpaces := 2, prevLow := true }).circuit 0
         512 ≤ v.line.spanBits ∧ v.state ≠ .closed ∧ v.line.spanSpaces < 3 ∧ v.line.ais = false)
      ∧ (let v := (framed fun l => { l with spanBits := 512, spanSpaces := 3, ais := true }).circuit 0
         512 ≤ v.line.spanBits ∧ ¬v.line.spanSpaces < 3 ∧ v.line.ais = true) := by decide +kernel

/-- The alarm sequence of section 2.4: LOS with LOA posts 0005h, and nothing for a CLOSED circuit. -/
theorem test_los_posts :
    after (.losSet 0) (framed fun l => { l with spaceRun := 2048 }) (fun t => t.attn.cp0.queue.map fun r => (r.kind, r.latest)) =
        some [(.lineAlarm, 0x0005)]
      ∧ after (.losSet 0) (line0 fun l => { l with spaceRun := 2048 }) (fun t => t.attn.cp0.queue) = some [] := by
  decide +kernel

/-- The bits of octets, in line order. -/
def bitsOf (octets : List Octet) : List Bool := octets.flatMap octetBits

theorem witness_FramerSteps :
    let v (f : Line → Line) : Circuit := (framed f).circuit 0
    (let l := (v fun l => { l with history := (bitsOf [0x9B]).reverse, rxCount := 8 }).line
     l.framer = .search ∧ l.searchPos + 8 ≤ l.rxCount ∧ (l.historyOctet 0).setWidth 7 = (0x1B : BitVec 7)
       ∧ 0 + 8 ≤ l.history.length)
      ∧ (let l := (v fun l => { l with history := (bitsOf [0x9A]).reverse, rxCount := 8 }).line
         (l.historyOctet 0).setWidth 7 ≠ (0x1B : BitVec 7))
      ∧ (let l := (v fun l => { l with framer := .verify, rxCount := 264,
                                       history := (bitsOf (List.replicate 33 0x40)).reverse }).line
         l.framer = .verify ∧ l.firstTestPassed = false ∧ l.candidate + 264 ≤ l.rxCount
           ∧ (l.historyOctet 256).getLsbD 6 = true)
      ∧ (let l := (v fun l => { l with framer := .verify, rxCount := 264,
                                       history := (bitsOf (List.replicate 33 0xBF)).reverse }).line
         (l.historyOctet 256).getLsbD 6 = false)
      ∧ (let l := (v fun l => { l with framer := .verify, firstTestPassed := true, rxCount := 520,
                                       history := (bitsOf (List.replicate 65 0x1B)).reverse }).line
         l.candidate + 520 ≤ l.rxCount ∧ (l.historyOctet 512).setWidth 7 = (0x1B : BitVec 7))
      ∧ (let l := (v fun l => { l with framer := .verify, firstTestPassed := true, rxCount := 520,
                                       history := (bitsOf (List.replicate 65 0x45)).reverse }).line
         (l.historyOctet 512).setWidth 7 ≠ (0x1B : BitVec 7))
      ∧ (let l := (v fun l => { l with framer := .aligned, period := (bitsOf [0x9B]).reverse }).line
         l.framer = .aligned ∧ l.frameOdd = false ∧ l.compared = false ∧ 8 ≤ l.period.length)
      ∧ (let l := (v fun l => { l with framer := .aligned, erroredRun := 3 }).line
         l.framer = .aligned ∧ 3 ≤ l.erroredRun)
      ∧ (v id).state ≠ .closed ∧ (v id).layoutD.mode = .structured := by decide +kernel

/-- The second test passes: ALIGNED, the boundary moves to the start of the frame whose slot 0 it was, and LOA clears (R26, R28, R33). -/
theorem test_entry_to_aligned :
    after (.framerVerifyTest 0)
        (framed fun l => { l with framer := .verify, firstTestPassed := true, rxCount := 520,
                                  history := (bitsOf (List.replicate 65 0x1B)).reverse })
        (fun t => ((t.circuit 0).line.framer, (t.circuit 0).line.period.length, t.attn.cp0.queue.map fun r => (r.kind, r.latest))) =
      some (.aligned, 8, [(.lineAlarm, 0x0000)]) := by decide +kernel

def fullPeriod : List Bool := (bitsOf ((List.range 32).map octet)).reverse

theorem witness_ReceivedFrameHandedOver :
    let v (s : State) : Circuit := s.circuit 0
    (256 ≤ (v (line0 fun l => { l with period := fullPeriod })).line.period.length
        ∧ (v (line0 fun l => { l with period := fullPeriod })).state = .closed)
      ∧ (let w := v (framed fun l => { l with period := fullPeriod, los := true })
         256 ≤ w.line.period.length ∧ w.state ≠ .closed ∧ w.line.los = true)
      ∧ (let w := v (open0 layU .running fun w => { w with line := { w.line with period := fullPeriod } })
         w.line.los = false ∧ w.layoutD.mode = .unstructured)
      ∧ (let w := v (framed fun l => { l with period := fullPeriod, framer := .aligned })
         w.line.los = false ∧ w.layoutD.mode = .structured ∧ w.line.framer = .aligned ∧ w.layoutD.slots[2]? = some 16)
      ∧ (let w := v (framed fun l => { l with period := fullPeriod, framer := .verify })
         w.line.framer ≠ .aligned) := by decide +kernel

/-- R23, R28: octets in line order, and the carried slots in slot-list order. -/
theorem test_received_frames :
    ((open0 layU .running fun w => { w with line := { w.line with period := fullPeriod } }).circuit 0).receivedFrame =
        (List.range 32).map octet
      ∧ ((framed fun l => { l with period := fullPeriod, framer := .aligned }).circuit 0).receivedFrame = [1, 2, 16] := by
  decide +kernel

def packing (acc : List (List Octet × Bool)) : Circuit :=
  (open0 lay .hold fun v => { v with packetizer := ⟨true, true, 65535, acc⟩ }).circuit 0

theorem witness_FramePacketized :
    ((packing []).packetizer.running = true ∧ (packing []).packetizer.collecting = true
        ∧ ((packing []).packetizer.accumulator ++ [([], false)]).length < (packing []).layoutD.fpp)
      ∧ ((open0 lay .running id).circuit 0).packetizer.collecting = false
      ∧ (let v := packing [([1, 2, 3], true)]
         v.layoutD.fpp ≤ (v.packetizer.accumulator ++ [([], false)]).length ∧ v.pathSet.mode = .dual)
      ∧ ({ packing [] with pathSet := { PathSettings.reset with mode := .single } } : Circuit).pathSet.mode = .single := by
  decide +kernel

/-- A packet of an ACQUIRING circuit with a faulted frame: 4Eh has version 1, DATA, L, R and P (R42 to R44, section 3.3). -/
theorem test_data_packet :
    ({ packing [([1, 2, 3], true), ([4, 5, 6], false)] with state := .acquiring } : Circuit).dataPacket =
      [0x4E, 0x01, 0x23, 0xFF, 0xFF, 0x02, 1, 2, 3, 4, 5, 6] := by decide +kernel

/-! ### Witnesses: playout and the transmit side -/

def slotOf (kind : SlotKind) : RingSlot := ⟨kind, 40, [[0xA1, 0xA2, 0xA3], [0xB1, 0xB2, 0xB3]], true, false, ⟨true, false⟩, 0⟩

/-- RUNNING with the head at 40 in slot 8 and a transmit frame that has ended. -/
def playing (kind : SlotKind) (f : Circuit → Circuit) : State :=
  holding .running fun v => f { v with ring := v.ring.set 8 (slotOf kind), line := { v.line with txPhase := 1250000000000 } }

theorem witness_HeadSlotTaken :
    let v (kind : SlotKind) : Circuit := (playing kind id).circuit 0
    ((playing .filled fun v => { v with cursor := { v.cursor with headTaken := true } }).circuit 0).cursor.headTaken = true
      ∧ ((v .filled).cursor.frameIndex = 0 ∧ (v .filled).cursor.headTaken = false ∧ ((v .filled).slotAt 40).kind = .filled)
      ∧ ((v .fault).slotAt 40).kind = .fault ∧ ((v .empty).slotAt 40).kind = .empty ∧ (v .filled).state = .running
      ∧ ((v .filled).pathSet.receiveSet.get .y = true ∧ ((v .filled).slotAt 40).deliveredBy.get .y = false) := by decide +kernel

theorem witness_TransmitFrameBoundary :
    (let s := line0 fun l => { l with txPhase := 1250000000000 }
     1250000000000 ≤ (s.circuit 0).line.txPhase ∧ (s.circuit 0).state = .closed)
      ∧ (let s := playing .fault id
         1250000000000 ≤ (s.circuit 0).line.txPhase ∧ (s.circuit 0).state = .running ∧ (s.circuit 0).cursor.head = some 40)
      ∧ (let s := playing .filled fun v => { v with state := .closing, cursor := { v.cursor with frameIndex := 1, headTaken := true } }
         (s.circuit 0).state = .closing ∧ (s.circuit 0).cursor.head = some 40
           ∧ (s.circuit 0).layoutD.fpp ≤ (s.circuit 0).cursor.frameIndex + 1) := by decide +kernel

/-- The last frame of a closing circuit frees the slot and sends drain complete (R87, R90). -/
theorem test_last_frame_drains :
    after (.transmitFrameBoundary 0)
        (playing .filled fun v => { v with state := .closing, cursor := { v.cursor with frameIndex := 1, headTaken := true } })
        (fun t =>
          let v := t.circuit 0
          (v.requests.drainComplete, v.cursor.head, v.cursor.hi, v.cursor.filledCount, v.line.txOctets.getD 16 0)) =
      some (true, some 41, none, 0, 0xB3) := by decide +kernel

/-- An EMPTY head at the loss threshold in RUNNING: concealment with the fill octet, and the underrun request (R89, R91). -/
theorem test_empty_take_requests_underrun :
    after (.transmitFrameBoundary 0) (playing .empty fun v => { v with cursor := { v.cursor with missingRun := 7 } })
        (fun t => ((t.circuit 0).requests.underrun, (t.circuit 0).line.txKind, (t.circuit 0).counters.missing)) =
      some (some (⟨40, .both false⟩ : UnderrunRequest), .traffic, 1) := by decide +kernel

theorem witness_TrafficFrameSlots :
    let v : Circuit := { Circuit.reset with layout := some lay }
    ({ v with layout := some layU } : Circuit).layoutD.mode = .unstructured
      ∧ v.layoutD.wellFormed = true ∧ v.layoutD.mode = .structured
      ∧ [(0xA1 : Octet), 0xA2, 0xA3].length = v.layoutD.slots.length ∧ v.layoutD.slots[2]? = some 16
      ∧ 3 ∉ v.layoutD.slots
      ∧ (let l := ((line0 fun l => { l with txPhase := 1249999999999 }).circuit 0).line
         255 * 4882812500 ≤ l.txPhase ∧ l.txPhase < (255 + 1) * 4882812500 ∧ l.txOctets[255 / 8]? = some 0xFF)
      ∧ (let l := ((line0 fun l => { l with txPhase := 1250000000000 }).circuit 0).line
         1250000000000 ≤ l.txPhase ∧ l.txOctets[31]? = some 0xFF) := by decide +kernel

/-- R37: slot 1 of value A1h follows slot 0 of value 9Bh on TTXD, bit 7 first: bits 7 to 16 are 1, then 1010 0001, then the next slot. -/
theorem test_ttxd :
    ([7, 8, 9, 10, 11, 12, 13, 14, 15, 16].map fun k =>
      (line0 fun l => { l with txOctets := [0x9B, 0xA1] ++ List.replicate 30 0x00, txPhase := k * 4882812500 }).ttxd 0) =
      [true, true, false, true, false, false, false, false, true, false] := by decide +kernel

/-! ### Witnesses: paths -/

def entry (kind : PacketKind) : QueueEntry := ⟨0, kind, 5, 0x020000000001, 0x020000000002, 0x88B5, [0x50, 0, 7, 0, 5, 0]⟩

/-- Path X with its link UP and a type code. -/
def linked (f : PathUnit → PathUnit) (s : State) : State :=
  path0 (fun u => f { u with linkPin := true, linkUp := true, source := 0x020000000002, typeCode := 0x88B5 }) s

theorem witness_PacketQueuedAndSent :
    (State.reset.pathUnit .x).typeCode = 0
      ∧ (let u := (linked (fun u => { u with linkUp := false }) State.reset).pathUnit .x
         u.typeCode ≠ 0 ∧ u.linkUp = false)
      ∧ (let u := (linked (fun u => { u with queue := List.replicate 64 (entry .data) }) State.reset).pathUnit .x
         u.typeCode ≠ 0 ∧ u.linkUp = true ∧ 64 ≤ u.queue.length)
      ∧ (let u := (linked (fun u => { u with queue := List.replicate 63 (entry .data) }) State.reset).pathUnit .x
         u.queue.length < 64)
      ∧ (let s := linked (fun u => { u with queue := [entry .probe] }) State.reset
         (s.pathUnit .x).queue = entry .probe :: [] ∧ (s.pathUnit .x).linkUp = true ∧ (s.pathUnit .x).macBusyNs < 100
           ∧ (s.circuit (entry .probe).circuit).state = .closed)
      ∧ (let s := linked (fun u => { u with queue := [entry .probe] }) (open0 lay .running id)
         (entry .probe).kind = .probe ∧ (s.circuit (entry .probe).circuit).state ≠ .closed) := by decide +kernel

/-- A PROBE leaves with t1, is counted as sent and becomes outstanding (R60, R134). -/
theorem test_probe_departs :
    after (.frameDeparture .x) { linked (fun u => { u with queue := [entry .probe] }) (open0 lay .running id) with localTime := 0x01020304 }
        (fun t => ((t.circuit 0).probing.outstanding.x, (t.circuit 0).cpCounters.x.sent,
          (t.paths.x.macFrame.map fun f => (f.length, (f.drop 20).take 4)))) =
      some ([⟨5, 0x01020304⟩], 1, some (64, [1, 2, 3, 4])) := by decide +kernel

/-- R60: frames of 64 octets leave 6,720 ns apart: 64 octet times, the gap of 960 ns and the preamble of 8 octet times. From a departure at
unit 0 the next is due in unit 67, 20 ns into it, and the one after it counts from there: 134.4 units. An idle MAC keeps nothing. -/
theorem test_departures_6720_ns_apart :
    let busy (s : State) : Nat := (s.pathUnit .x).macBusyNs
    let s (ns : Nat) : State := linked (fun u => { u with queue := [entry .probe], macBusyNs := ns }) State.reset
    after (.frameDeparture .x) (s 0) busy = some 6720
      ∧ (6720 - 66 * 100 = 120 ∧ (s 120).due = [] ∧ busy (s 120).tick = 20 ∧ (s 20).due = [.frameDeparture .x])
      ∧ after (.frameDeparture .x) (s 20) busy = some 6740
      ∧ busy (linked (fun u => { u with macBusyNs := 20 }) State.reset).tick = 0 := by decide +kernel

def single : PathSettings := { PathSettings.reset with mode := .single }

/-- Circuit 0 RUNNING in SINGLE mode on X with both links UP. -/
def onX (f : Circuit → Circuit) : State :=
  (linked id (open0 lay .running fun v => f { v with pathSet := single })).setPath .y (.reset true)

theorem witness_HealthAndTransmitPath :
    (let s := onX fun v => { v with health := { v.health with degraded := ⟨true, false⟩ } }
     (s.circuit 0).pathSet.mode = .single ∧ (s.circuit 0).state ≠ .closed ∧ (s.pathUnit (Path.x).other).linkUp = true
       ∧ (s.circuit 0).health.degraded.get .x = true ∧ (s.circuit 0).health.degraded.get (Path.x).other = false)
      ∧ ((onX id).circuit 0).health.degraded.get .x = false
      ∧ (let v := (onX fun v => { v with health := { v.health with count := ⟨7, 15⟩ } }).circuit 0
         v.health.count.get .x - v.pathSet.badStep < v.pathSet.low)
      ∧ (let v := (onX fun v => { v with health := { v.health with count := ⟨11, 15⟩, degraded := ⟨true, false⟩ } }).circuit 0
         v.pathSet.high ≤ min 15 (v.health.count.get .x + v.pathSet.goodStep)) := by decide +kernel

/-- Section 4.9: the fifth bad step degrades X and moves the path: PATH_HEALTH 0001h, TX_PATH_CHANGE 0001h. -/
theorem test_degradation_moves_the_path :
    let t := (onX fun v => { v with health := { v.health with count := ⟨7, 15⟩ } }).healthStep 0 .x false
    ((t.circuit 0).health, t.attn.cp0.queue.map fun r => (r.kind, r.latest)) =
      (⟨⟨5, 15⟩, ⟨true, false⟩, .y⟩, [(.pathHealth, 0x0001), (.txPathChange, 0x0001)]) := by decide +kernel

theorem witness_LinkEventTaken :
    ((onX id).pathUnit .x).linkUp = true
      ∧ (((onX id).pathUnit .x).linkUp ≠ false ∧ ((onX id).circuit 0).pathSet.mode = .single
          ∧ ((onX id).pathUnit (Path.x).other).linkUp = true)
      ∧ (State.reset.pathUnit .x).linkUp ≠ true
      ∧ ((onX id).circuit 1).state = .closed := by decide +kernel

/-- R58: UP to DOWN drops the queue and moves a SINGLE circuit. -/
theorem test_link_down :
    after (.linkEvent .x false) (linked (fun u => { u with queue := [entry .data, entry .data] }) (onX id))
        (fun t => (t.paths.x.queue.length, t.paths.x.linkDownDrops, (t.circuit 0).health.active,
          t.attn.cp0.queue.map fun r => (r.kind, r.latest))) =
      some (0, 2, .y, [(.pathHealth, 0), (.txPathChange, 1)]) := by decide +kernel

theorem witness_PathCommandsServed :
    individual 0x020000000001 = true
      ∧ (let s := sent State.reset 0x22 (configurePathParams .x 0x020000000001 0)
         s.frameAtOwner .cp0 0x22 (configurePathParams .x 0x020000000001 0) ∧ (s.pathUnit .x).typeCode = 0)
      ∧ (let s := sent (linked (fun u => { u with queue := [entry .data] }) State.reset) 0x22
           (configurePathParams .x 0x020000000001 0)
         s.frameAtOwner .cp0 0x22 (configurePathParams .x 0x020000000001 0) ∧ (s.pathUnit .x).typeCode ≠ 0)
      ∧ (let s := sent (onX id) 0x15 (setPathsParams 0 single)
         single.inRange = true ∧ s.frameAtOwner .cp0 0x15 (setPathsParams 0 single)
           ∧ ¬((s.circuit 0).state ≠ .closed ∧ (s.circuit 0).pathSet.mode = .dual ∧ single.mode = .single))
      ∧ (let s := sent (open0 lay .running id) 0x15 (setPathsParams 0 single)
         (s.circuit 0).state ≠ .closed ∧ (s.circuit 0).pathSet.mode = .dual ∧ single.mode = .single) := by decide +kernel

/-- The fields of a frame from the network for path X. -/
def rx (destination : MacAddr) (packet : List Octet) : List Octet :=
  be 6 destination.toNat ++ be 6 0x020000000003 ++ be 2 0x88B5 ++ padded packet

/-- A frame with a correct check sequence, and one with every bit of it wrong. -/
def checked (fields : List Octet) : List Octet := fields ++ fcs fields
def spoiled (fields : List Octet) : List Octet := fields ++ (fcs fields).map (~~~ ·)

theorem fcs_length (fields : List Octet) : (fcs fields).length = 4 := by simp [fcs]

theorem checked_is_correct (fields : List Octet) (h : 60 ≤ fields.length) (h' : fields.length ≤ 1514) :
    ¬((checked fields).length < 64 ∨ 1518 < (checked fields).length
      ∨ fcs ((checked fields).take ((checked fields).length - 4)) ≠ (checked fields).drop ((checked fields).length - 4)) := by
  simp [checked, fcs_length]
  omega

theorem spoiled_is_wrong (fields : List Octet) :
    fcs ((spoiled fields).take ((spoiled fields).length - 4)) ≠ (spoiled fields).drop ((spoiled fields).length - 4) := by
  have flip : ∀ o : Octet, o ≠ ~~~o := by decide +kernel
  simp only [spoiled, List.length_append, List.length_map, fcs_length, Nat.add_sub_cancel, List.take_left', List.drop_left']
  intro h
  have h0 := congrArg (fun l => l.getD 0 0) h
  simp only [fcs, List.map_cons, List.getD_cons_zero] at h0
  exact flip _ h0

def here : State := linked id (open0 lay .running fun v => { v with cursor := { v.cursor with head := some 0x1234 } })

/-- The address filter of the classification, as a check of one frame against `here`. -/
def addressedHere (octets : List Octet) : Bool :=
  decide ((here.pathUnit .x).typeCode ≠ 0)
    && decide (be 2 (here.pathUnit .x).typeCode.toNat = (octets.drop 12).take 2)
    && decide (be 6 (here.pathUnit .x).source.toNat = octets.take 6)

def fieldOf (octets : List Octet) : List Octet := (octets.drop 14).take (octets.length - 18)

/-- Each frame below is 64 octets long, so `checked_is_correct` serves it. -/
theorem witness_FrameReceivedClassified_lengths :
    ∀ packet ∈ ([[0x70, 0x04, 0x56, 0, 0, 2], [0x40, 0x04, 0x57, 0, 0, 2], [0x40, 0x04, 0x56, 0, 0, 2],
        [0x42, 0x04, 0x56, 0x12, 0x34, 2, 1, 2, 3, 4, 5, 6],
        [0x42, 0x04, 0x56, 0x12, 0x34, 3], [0x50, 0x04, 0x56, 0x12, 0x34, 0, 1, 2, 3, 4],
        [0x60, 0x04, 0x56, 0x12, 0x34, 0, 1, 2, 3, 4, 5, 6, 7, 8, 9, 10, 11, 12]] : List (List Octet)),
      (rx 0x020000000002 packet).length = 60 := by decide +kernel

theorem witness_FrameReceivedClassified :
    (List.replicate 63 (0 : Octet)).length < 64 ∧ 1518 < (List.replicate 1519 (0 : Octet)).length
      ∧ addressedHere (checked (rx 0x020000000009 [0x40, 0x04, 0x56, 0, 0, 2])) = false
      ∧ (let f := checked (rx 0x020000000002 [0x70, 0x04, 0x56, 0, 0, 2])
         addressedHere f = true ∧ ((fieldOf f).getD 0 0).toNat / 16 % 4 = 3)
      ∧ (let f := checked (rx 0x020000000002 [0x40, 0x04, 0x57, 0, 0, 2])
         addressedHere f = true
           ∧ ∀ c : CircuitId, (here.circuit c).state ≠ .closed →
               (here.circuit c).layoutD.remoteTag ≠ fromBe (((fieldOf f).drop 1).take 2) % 4096)
      ∧ ((here.circuit 0).state ≠ .closed ∧ (here.circuit 0).layoutD.remoteTag = 0x0456
          ∧ ∀ d : CircuitId, (here.circuit d).state ≠ .closed → (here.circuit d).layoutD.remoteTag = 0x0456 → d = 0)
      ∧ (let f := checked (rx 0x020000000002 [0x42, 0x04, 0x56, 0x12, 0x34, 2, 1, 2, 3, 4, 5, 6])
         addressedHere f = true ∧ ((fieldOf f).getD 5 0).toNat = lay.fpp ∧ lay.fpp * lay.octetsPerFrame < 40
           ∧ (fieldOf f).length = 46)
      ∧ (let f := checked (rx 0x020000000002 [0x42, 0x04, 0x56, 0x12, 0x34, 3])
         addressedHere f = true ∧ ((fieldOf f).getD 5 0).toNat ≠ lay.fpp)
      ∧ (let f := checked (rx 0x020000000002 [0x50, 0x04, 0x56, 0x12, 0x34, 0, 1, 2, 3, 4])
         addressedHere f = true ∧ ((fieldOf f).getD 0 0).toNat / 16 % 4 = 1)
      ∧ (let f := checked (rx 0x020000000002 [0x60, 0x04, 0x56, 0x12, 0x34, 0, 1, 2, 3, 4, 5, 6, 7, 8, 9, 10, 11, 12])
         addressedHere f = true ∧ ((fieldOf f).getD 0 0).toNat / 16 % 4 = 2) := by
  refine ⟨by rw [List.length_replicate]; decide, by rw [List.length_replicate]; decide, ?_⟩
  decide +kernel

/-- What the classification makes of a frame for path X at `here`. -/
def seen (packet : List Octet) (s : State) : State := s.receiveClassified .x (s.classify (checked (rx 0x020000000002 packet)))

/-- A DATA frame reaches the ring: accepted, FILLED with its two frames (R64, R79). -/
theorem test_data_frame_is_stored :
    (let t := seen [0x42, 0x04, 0x56, 0x12, 0x34, 2, 1, 2, 3, 4, 5, 6] here
     ((t.circuit 0).cpCounters.x.accepted, ((t.circuit 0).slotAt 0x1234).payload, (t.circuit 0).cursor.span)) =
      (1, [[1, 2, 3], [4, 5, 6]], 1) := by decide +kernel

/-- A PROBE is answered on its path by an ECHO with t1 and t2 (R53, R135). -/
theorem test_probe_is_echoed :
    (seen [0x50, 0x04, 0x56, 0x12, 0x34, 0, 9, 8, 7, 6] { here with localTime := 0x01020304 }).paths.x.queue.map
        (fun e => (e.kind, e.packet)) =
      [(.echo, [0x60, 0x01, 0x23, 0x12, 0x34, 0x00, 9, 8, 7, 6, 1, 2, 3, 4])] := by decide +kernel

/-! ### Witnesses: arrivals -/

theorem witness_OffsetClasses :
    let d (head n : Seq) : Nat := (n.toNat + 65536 - head.toNat) % 65536
    (4 ≤ 4 ∧ 128 ≤ 128 ∧ d 65533 65536 < 4) ∧ (d 7 7 = 0) ∧ (4 ≤ d 0 4 ∧ d 0 32767 < 32768) ∧ 32768 ≤ d 0 32768 := by decide

def arrival (n : Seq) : Arrival := ⟨n, false, true, true, [[1, 2, 3], [4, 5, 6]]⟩

theorem witness_DataArrivalJudged :
    let v (s : State) : Circuit := s.circuit 0
    (v (open0 lay .hold id)).state = .hold ∧ (v (open0 lay .closing id)).state = .closing
      ∧ (let w := v (open0 lay .running fun w => { w with pathSet := { w.pathSet with receiveSet := ⟨false, true⟩ } })
         w.state ≠ .hold ∧ w.state ≠ .closing ∧ w.pathSet.receiveSet.get .x = false)
      ∧ (let w := v (open0 lay .acquiring id)
         w.state = .acquiring ∧ w.pathSet.receiveSet.get .x = true ∧ w.cursor.head = none)
      ∧ (let w := v (holding .running id)
         w.state = .running ∧ w.cursor.head = some 40
           ∧ (classifyOffset w.layoutD.capacity w.cursor.headTaken (seqOffset 40 55) = .inWindow ∧ (w.slotAt 55).kind = .empty)
           ∧ (classifyOffset w.layoutD.capacity w.cursor.headTaken (seqOffset 40 40) = .inWindow ∧ (w.slotAt 40).kind ≠ .empty
               ∧ (w.slotAt 40).deliveredBy.get .y = false ∧ (w.slotAt 40).deliveredBy.get .x ≠ false)
           ∧ classifyOffset w.layoutD.capacity w.cursor.headTaken (seqOffset 40 56) = .early
           ∧ classifyOffset w.layoutD.capacity w.cursor.headTaken (seqOffset 40 39) = .late)
      ∧ (v (holding .acquiring id)).state = .acquiring
      ∧ (let w := v (holding .running fun w => { w with cursor := { w.cursor with lastR := some false } })
         w.cursor.lastR = some (!true) ∧ w.cursor.lastR ≠ some (!false))
      ∧ (let w := v (holding .acquiring id)
         w.layout = some lay ∧ w.cursor.span < min w.playoutSet.targetDepth (2 ^ lay.k - 1))
      ∧ (let w := v (holding .acquiring fun w => { w with cursor := { w.cursor with hi := some 41 } })
         min w.playoutSet.targetDepth (2 ^ lay.k - 1) ≤ w.cursor.span ∧ w.cursor.hi = some 41) := by decide +kernel

/-- The copy on the second path is a duplicate: merge skew and lead path (R80). -/
theorem test_duplicate :
    let t := ({ holding .running id with localTime := 77 } : State).dataArrival 0 .y (arrival 40)
    ((t.circuit 0).cpCounters.y.duplicates, (t.circuit 0).cursor.mergeSkew, (t.circuit 0).cursor.leadPath,
      ((t.circuit 0).slotAt 40).deliveredBy, (t.circuit 0).cursor.filledCount) = (1, 77, some .x, ⟨true, true⟩, 1) := by decide +kernel

/-- The eighth early arrival in RUNNING requests overrun with its number (R81). -/
theorem test_eighth_early_arrival :
    let t := (holding .running fun v => { v with cursor := { v.cursor with earlyRun := 7 } }).dataArrival 0 .x (arrival 56)
    ((t.circuit 0).requests.overrun, (t.circuit 0).cursor.earlyRun, (t.circuit 0).cpCounters.x.early) = (some 56, 8, 1) := by
  decide +kernel

/-! ### Witnesses: timing and reference -/

def timed (f : Timing → Timing) : State := open0 lay .running fun v => { v with timing := f v.timing }

theorem witness_LoopUpdate :
    ((timed id).circuit 0).layout = some lay
      ∧ ¬(((open0 lay .hold id).circuit 0).state = .running ∧ ((open0 lay .hold id).circuit 0).timingSet.mode = .adaptive)
      ∧ (let v := (timed fun t => { t with n := 62 }).circuit 0
         v.state = .running ∧ v.timingSet.mode = .adaptive ∧ v.timing.n + 1 < 2 ^ v.timingSet.m)
      ∧ (let v := (timed fun t => { t with n := 63 }).circuit 0
         v.state = .running ∧ v.timingSet.mode = .adaptive ∧ 2 ^ v.timingSet.m ≤ v.timing.n + 1) := by decide +kernel

/-- The limits of section 6.10 in a whole update: both clamps act and LOOP_SATURATION 0003h is posted (T is 4 here: S − T × N = 512). -/
theorem test_loop_update_saturates :
    let t := (timed fun t => { t with n := 63, sum := 760, i := 59990 }).depthSample 0 8
    ((t.circuit 0).timing.c, (t.circuit 0).timing.i, (t.circuit 0).timing.n, t.attn.cp1.queue.map fun r => (r.kind, r.latest)) =
      (60000, 60000, 0, [(.loopSaturation, 0x0003)]) := by decide +kernel

theorem witness_SetTimingServed :
    let raw : TimingSettings := { TimingSettings.reset with lim := 30000 }
    let s := sent (timed fun t => { t with i := 40000, c := 42000 }) 0x14 (setTimingParams 0 raw)
    raw.carried = true ∧ s.frameAtOwner .cp0 0x14 (setTimingParams 0 raw)
      ∧ (s.circuit 0).timingSet.lim ≠ raw.lim ∧ (s.circuit 0).timing.integratorSat ≠ ⟨true, true⟩
      ∧ (sent State.reset 0x14 (setTimingParams 0 raw)).frameAtOwner .cp0 0x14 (setTimingParams 0 raw) := by decide +kernel

/-- Section 6.10, Lim lowered on a running loop: I 40,000 and C 42,000 become 30,000, and 0003h is posted. -/
theorem test_lim_lowered :
    after (.setTiming .cp0)
        (sent (timed fun t => { t with i := 40000, c := 42000 }) 0x14
          (setTimingParams 0 { TimingSettings.reset with lim := 30000 }))
        (fun t => (answer t, (t.circuit 0).timing.i, (t.circuit 0).timing.c, t.attn.cp0.queue.map fun r => (r.kind, r.latest))) =
      some (some [0x00, 0x00], 30000, 30000, [(.loopSaturation, 0x0003)]) := by decide +kernel

theorem witness_SettingsStored :
    (let t : PlayoutSettings := ⟨255, .fill, 0x00, true⟩
     t.inRange = true ∧ (sent State.reset 0x17 (setPlayoutParams 0 t)).frameAtOwner .cp0 0x17 (setPlayoutParams 0 t))
      ∧ (let t : ProbeSettings := ⟨0, 1, 10000000⟩
         t.inRange = true ∧ (sent State.reset 0x16 (setProbingParams 0 t)).frameAtOwner .cp0 0x16 (setProbingParams 0 t)
           ∧ ((sent State.reset 0x16 (setProbingParams 0 t)).circuit 0).state = .closed)
      ∧ ((open0 lay .running id).circuit 0).state ≠ .closed
      ∧ (within 1 255 255 = true ∧ within 1 15 1 = true
          ∧ (sent State.reset 0x20 [0xFF, 0x01, 0x7F]).frameAtOwner .cp0 0x20 (configureReferenceParams 255 1 0x7F)) := by
  decide +kernel

/-- The monitor with a window begun at 0 that has counted `edges`, at a local time. -/
def monitored (now : Time) (edges : Nat) (f : RefMonitor → RefMonitor) (s : State) : State :=
  { s with localTime := now, ref := f { s.ref with window := some ⟨0, edges⟩, absenceTimer := some 0 } }

theorem witness_ReferenceMonitored :
    State.reset.ref.window = none
      ∧ (let s := monitored 9999999 4294967295 id State.reset
         s.ref.window = some ⟨0, 4294967295⟩ ∧ (s.localTime - 0).toNat < 10000000)
      ∧ (let s := monitored 10000000 2048102 (fun r => { r with state := .good }) State.reset
         s.ref.window = some ⟨0, 2048102⟩ ∧ 10000000 ≤ (s.localTime - 0).toNat
           ∧ ((2048102 : Int) - 2048000).natAbs ≤ s.ref.toleranceInUse ∧ s.ref.state = .good)
      ∧ (let s := monitored 10000000 2048000 (fun r => { r with state := .qualifying, qualCount := 2 }) State.reset
         s.ref.state ≠ .good ∧ s.ref.qInUse ≤ s.ref.qualCount + 1)
      ∧ (let s := monitored 10000000 2048000 id State.reset
         s.ref.state ≠ .good ∧ 1 < s.ref.qInUse)
      ∧ (let s := monitored 10000000 2048103 id State.reset
         ¬((2048103 : Int) - 2048000).natAbs ≤ s.ref.toleranceInUse)
      ∧ (let v := (open0 lay .running fun v => { v with timingSet := { v.timingSet with mode := .station, lim := 5000 } }).circuit 0
         v.state = .running ∧ v.timingSet.mode = .station ∧ max (-5000) (min 5000 (9766 : Int)) ≠ 9766)
      ∧ (let s := monitored 100 1 id State.reset
         s.ref.absenceTimer = some 0 ∧ 100 ≤ (s.localTime - 0).toNat ∧ s.ref.state = .absent)
      ∧ (monitored 100 1 (fun r => { r with state := .good }) State.reset).ref.state ≠ .absent := by decide +kernel

/-- Section 6.10, STATION mode: a window of 2,048,020 hands over 9,766, which Lim 5,000 clamps; LOOP_SATURATION 0002h. -/
theorem test_station_offset :
    after .referenceWindowCompletion
        (monitored 10000000 2048020 (fun r => { r with state := .good })
          (open0 lay .running fun v => { v with timingSet := { v.timingSet with mode := .station, lim := 5000 } }))
        (fun t => (t.ref.lastOffset, (t.circuit 0).timing.c, t.attn.cp0.queue.map fun r => (r.kind, r.latest))) =
      some (9766, 5000, [(.loopSaturation, 0x0002)]) := by decide +kernel

/-! ### Witnesses: probing -/

def probing (f : Probing → Probing) : State :=
  linked id (open0 lay .running fun v => { v with probing := f v.probing, probeSet := { v.probeSet with interval := 10 } })

theorem witness_ProbeTimerExpires :
    (let s : State := { probing fun b => { b with timer := some 0 } with localTime := 1000000 }
     (s.circuit 0).probing.timer = some 0 ∧ (s.circuit 0).state ≠ .closed ∧ (s.circuit 0).probeSet.interval ≠ 0
       ∧ (s.circuit 0).probeSet.interval * 100000 ≤ (s.localTime - 0).toNat)
      ∧ (State.reset.pathUnit .x).linkUp = false
      ∧ (let s := linked (fun u => { u with queue := List.replicate 32 (entry .data) }) (probing fun b => { b with postponed := ⟨7, 0⟩ })
         (s.pathUnit .x).linkUp = true ∧ 32 ≤ (s.pathUnit .x).queue.length ∧ (s.circuit 0).probing.postponed.get .x < 8)
      ∧ (let s := linked (fun u => { u with queue := List.replicate 31 (entry .data) }) (probing id)
         (s.pathUnit .x).queue.length < 32)
      ∧ 8 ≤ ((probing fun b => { b with postponed := ⟨8, 0⟩ }).circuit 0).probing.postponed.get .x := by decide +kernel

theorem witness_EchoAndDelay :
    (let b := ((probing fun b => { b with outstanding := ⟨[⟨4, 100⟩, ⟨8, 200⟩, ⟨10, 300⟩], []⟩ }).circuit 0).probing
     b.outstanding.get .x = [⟨4, 100⟩] ++ ⟨8, 200⟩ :: [⟨10, 300⟩] ∧ (∀ e ∈ [(⟨4, 100⟩ : Outstanding)], e.number ≠ 8)
       ∧ (∀ e ∈ b.outstanding.get .x, e.number ≠ 6)
       ∧ (0 ≤ ((4480 - 200 : Time).toNat : Int) - ((120 - 100 : Time).toNat : Int)
           ∧ ((4480 - 200 : Time).toNat : Int) - ((120 - 100 : Time).toNat : Int) ≤ 10000000)
       ∧ ((300 - 200 : Time).toNat : Int) - ((900 - 100 : Time).toNat : Int) < 0)
      ∧ (Probing.reset.record.get .x).smoothed = none
      ∧ (let r : DelayRecord := { DelayRecord.reset with smoothed := some 4180 }
         r.smoothed = some 4180 ∧ r.alarm = false ∧ 4000 < 4180)
      ∧ (let b : Probing := { Probing.reset with
           record := ⟨{ DelayRecord.reset with smoothed := some 4179 }, { DelayRecord.reset with smoothed := some 3100 }⟩ }
         b.record.x.smoothed = some 4179 ∧ b.record.y.smoothed = some 3100) := by decide +kernel

/-- Section 8.7, event 8: the ECHO for #8 takes #4 and #6 with it, and the smoothed value becomes 4,190. -/
theorem test_echo_removes_older :
    let s := probing fun b =>
      { b with outstanding := ⟨[⟨4, 0⟩, ⟨6, 0⟩, ⟨8, 0⟩, ⟨10, 0⟩], []⟩,
               record := ⟨{ DelayRecord.reset with smoothed := some 4180, minimum := ⟨some 4180, some 4180⟩, sampleCount := 1 }, .reset⟩ }
    let t := s.echoArrival 0 .x 4260 8 0 0
    ((t.circuit 0).probing.outstanding.x.map (·.number), (t.circuit 0).cpCounters.x.probesLost,
      (t.circuit 0).probing.record.x.smoothed, (t.circuit 0).probing.record.x.minimum.cp0,
      (t.circuit 0).probing.record.x.sampleCount) = ([10], 2, some 4190, some 4180, 2) := by decide +kernel

/-- Section 8.5: smoothed 4,179 on X and a first sample of 3,100 on Y raise ASYMMETRY 0001h at limit 1,000. -/
theorem test_asymmetry :
    let s := open0 lay .running fun v =>
      { v with probeSet := { v.probeSet with asymmetryLimit := 1000 },
               probing := { v.probing with record := ⟨{ DelayRecord.reset with smoothed := some 4179 }, .reset⟩ } }
    (s.delaySample 0 .y 3100).attn.cp0.queue.map (fun r => (r.kind, r.latest)) = [(.asymmetry, 0x0001)] := by decide +kernel

/-! ### Witnesses: the whole part -/

theorem reset_circuit (c : CircuitId) : State.reset.circuit c = Circuit.reset := by
  simp [State.circuit, State.reset, State.resetWith]

theorem step_from_reset : ∃ t : State, step State.reset = .next t := by
  have h : State.reset.due = [] := by decide +kernel
  exact ⟨State.reset.tick, by simp [step, State.nextDue, h, show State.reset.pending = [] from rfl]⟩

theorem witness_EveryStepKeepsTheTable : (∃ t : State, step State.reset = .next t) ∧ PoolSound State.reset ∧ LayoutsSound State.reset := by
  refine ⟨step_from_reset, ⟨by decide +kernel, by decide +kernel⟩, ?_, ?_, ?_⟩
  · intro c l h
    rw [reset_circuit] at h
    exact nomatch h
  · intro c h
    rw [reset_circuit] at h
    exact absurd rfl h
  · intro c d h
    rw [reset_circuit] at h
    exact absurd rfl h

theorem witness_EveryStepKeepsTheControllerSide :
    (∃ t : State, step State.reset = .next t)
      ∧ AttentionSound State.reset ∧ AuthoritySound State.reset ∧ SupervisionSound State.reset ∧ ExchangeSound State.reset := by
  refine ⟨step_from_reset, ?_, ?_, ?_, ?_⟩ <;> intro p <;> cases p
  all_goals first
    | (show ([] : List AttnRecord).length ≤ 48 ∧ _ ∧ _; decide +kernel)
    | (intro h; exact absurd h (by decide +kernel))
    | (show (5 : Nat) ≤ 15 ∧ _ ∧ _ ∧ _ ∧ _ ∧ _ ∧ _; decide +kernel)
    | (show (false = true ↔ _) ∧ _ ∧ _ ∧ _ ∧ _; decide +kernel)

theorem witness_EveryStepKeepsTheNetworkSide :
    (∃ t : State, step State.reset = .next t)
      ∧ QueuesSound State.reset ∧ HealthSound State.reset ∧ ProbesSound State.reset ∧ TimingSound State.reset
      ∧ LinesSound State.reset := by
  refine ⟨step_from_reset, ?_, ?_, ?_, ?_, ?_⟩
  · intro π
    cases π <;> exact ⟨by decide +kernel, fun _ => rfl⟩
  · intro c π
    rw [reset_circuit]
    cases π <;> decide
  · intro c π
    simp only [reset_circuit]
    cases π <;> refine ⟨by decide, by decide, fun _ => rfl, by decide, by decide, by decide, fun v h => (nomatch h), ?_⟩ <;>
      intro p m h <;> cases p <;> exact nomatch h
  · intro c
    simp only [reset_circuit]
    decide
  · intro c
    simp only [reset_circuit]
    exact ⟨⟨fun _ => ⟨rfl, rfl, rfl⟩, fun h => absurd rfl h⟩, .inl (List.nil_prefix), by decide, by decide, by decide, by decide⟩

theorem witness_EveryStepKeepsTheRings : (∃ t : State, step State.reset = .next t) ∧ RingsSound State.reset := by
  refine ⟨step_from_reset, fun c => ?_⟩
  simp only [reset_circuit]
  exact ⟨fun _ => rfl, fun h => absurd rfl h, by decide⟩

theorem take_authority_answers_next (s : State) : ∃ t : State, exec (.takeAuthority .cp0) s = .next t := ⟨_, rfl⟩

theorem witness_OwnersAloneChangeTheirState :
    let s := sent (u0 fun u => { u with eligible := true }) 0x05 []
    (∃ t : State, exec (.takeAuthority .cp0) s = .next t) ∧ Instr.takeAuthority .cp0 ≠ .deviceReset
      ∧ after (.takeAuthority .cp0) s (·.holder) = some (some .cp0) ∧ s.holder = none
      ∧ Instr.takeAuthority .cp0 ∉ [Instr.fetchChallenge .cp0, .submitAnswer .cp0, .readSupervision .cp0,
          .configureSupervision .cp0, .windowTimerExpiry .cp0, .crstTimerExpiry .cp0] :=
  ⟨take_authority_answers_next _, by decide, by decide +kernel, by decide +kernel, by decide⟩

end Sys2Proof.Tests
end

section
/-! The ranges of a layout (R1) and the storage they bound: octets per frame, capacity, ring payload and needed blocks (R11). -/

namespace Sys2Proof

/-! ### The ranges of a layout -/

theorem Layout.wellFormed_iff (l : Layout) :
    l.wellFormed = true ↔
      slotsWellFormed l.mode l.slots = true
        ∧ (1 ≤ l.fpp ∧ l.fpp ≤ 32) ∧ (2 ≤ l.k ∧ l.k ≤ 7)
        ∧ (1 ≤ l.localTag ∧ l.localTag ≤ 4095) ∧ (1 ≤ l.remoteTag ∧ l.remoteTag ≤ 4095)
        ∧ (1 ≤ l.acqLimit ∧ l.acqLimit ≤ 255) ∧ (1 ≤ l.lossThreshold ∧ l.lossThreshold ≤ 255) := by
  simp [Layout.wellFormed, and_assoc]

theorem slotsWellFormed_structured_length {slots : List Nat} (h : slotsWellFormed .structured slots = true) :
    1 ≤ slots.length ∧ slots.length ≤ 31 := by
  simp only [slotsWellFormed, Bool.and_eq_true, Bool.not_eq_true', List.isEmpty_eq_false_iff, decide_eq_true_eq] at h
  obtain ⟨⟨⟨nonempty, atMost⟩, -⟩, -⟩ := h
  exact ⟨List.length_pos_iff.mpr nonempty, atMost⟩

/-! ### The values that follow from a layout -/

theorem Layout.octetsPerFrame_unstructured {l : Layout} (h : l.mode = .unstructured) : l.octetsPerFrame = 32 := by
  simp [Layout.octetsPerFrame, h]

theorem Layout.octetsPerFrame_structured {l : Layout} (h : l.mode = .structured) : l.octetsPerFrame = l.slots.length := by
  simp [Layout.octetsPerFrame, h]

theorem Layout.octetsPerFrame_range {l : Layout} (h : slotsWellFormed l.mode l.slots = true) :
    1 ≤ l.octetsPerFrame ∧ l.octetsPerFrame ≤ 32 := by
  cases mode : l.mode with
  | unstructured => simp [Layout.octetsPerFrame_unstructured mode]
  | structured =>
    have length := slotsWellFormed_structured_length (mode ▸ h)
    rw [Layout.octetsPerFrame_structured mode]
    omega

theorem Layout.capacity_range {l : Layout} (low : 2 ≤ l.k) (high : l.k ≤ 7) : 4 ≤ l.capacity ∧ l.capacity ≤ 128 :=
  ⟨Nat.pow_le_pow_right (n := 2) (by decide) low, Nat.pow_le_pow_right (n := 2) (by decide) high⟩

/-- The ring payload lies between those of the smallest and of the largest layout of R11. -/
theorem Layout.payload_range {l : Layout} (h : l.wellFormed = true) :
    4 ≤ l.capacity * l.fpp * l.octetsPerFrame ∧ l.capacity * l.fpp * l.octetsPerFrame ≤ 131072 := by
  obtain ⟨slots, ⟨fppLow, fppHigh⟩, ⟨kLow, kHigh⟩, -⟩ := l.wellFormed_iff.mp h
  obtain ⟨capacityLow, capacityHigh⟩ := Layout.capacity_range kLow kHigh
  obtain ⟨octetsLow, octetsHigh⟩ := Layout.octetsPerFrame_range slots
  exact ⟨Nat.mul_le_mul (Nat.mul_le_mul capacityLow fppLow) octetsLow,
    Nat.mul_le_mul (Nat.mul_le_mul capacityHigh fppHigh) octetsHigh⟩

/-! ### The needed blocks -/

theorem Layout.neededBlocks_eq (l : Layout) : l.neededBlocks = (2 ^ l.k * l.fpp * l.octetsPerFrame + 255) / 256 := rfl

/-- Rounding up: the needed blocks are the least number of 256-octet blocks that holds the ring payload (R11). -/
theorem Layout.neededBlocks_le_iff (l : Layout) (n : Nat) :
    l.neededBlocks ≤ n ↔ l.capacity * l.fpp * l.octetsPerFrame ≤ 256 * n := by
  rw [Layout.neededBlocks]
  omega

theorem Layout.payload_le_blocks (l : Layout) : l.capacity * l.fpp * l.octetsPerFrame ≤ 256 * l.neededBlocks :=
  (l.neededBlocks_le_iff _).mp le_rfl

theorem Layout.blocks_lt_payload_add (l : Layout) :
    256 * l.neededBlocks < l.capacity * l.fpp * l.octetsPerFrame + 256 := by
  rw [Layout.neededBlocks]
  omega

theorem Layout.neededBlocks_range {l : Layout} (h : l.wellFormed = true) : 1 ≤ l.neededBlocks ∧ l.neededBlocks ≤ 512 := by
  obtain ⟨low, high⟩ := Layout.payload_range h
  have holds := l.payload_le_blocks
  exact ⟨by omega, (l.neededBlocks_le_iff 512).mpr high⟩

/-- Settles O25: the payload range of R11, carried through the rounding; the table's rows are computed from their three values. -/
theorem neededBlocks : Obligations.NeededBlocks := by
  refine ⟨fun l h => ?_, fun l => ?_⟩
  · obtain ⟨low, high⟩ := Layout.neededBlocks_range h
    exact ⟨l.payload_le_blocks, l.blocks_lt_payload_add, low, high, by omega,
      Layout.octetsPerFrame_unstructured, Layout.octetsPerFrame_structured⟩
  · refine ⟨?_, ?_, ?_, ?_, ?_, ?_, ?_⟩ <;> intro octets fpp k <;> simp [Layout.neededBlocks_eq, octets, fpp, k]

end Sys2Proof
end

section
/-! The offset of an arrival from head, taken modulo 65536, and its class (R76). -/

namespace Sys2Proof.Machine

/-! ### The offset -/

theorem seqOffset_eq (head n : Seq) : seqOffset head n = (n.toNat + 65536 - head.toNat) % 65536 := by
  have inRange := head.isLt
  rw [seqOffset, BitVec.toNat_sub]
  congr 1
  omega

/-! ### The class -/

/-- The first row of R76's table. -/
theorem classifyOffset_eq_inWindow_iff {capacity d : Nat} {taken : Bool} :
    classifyOffset capacity taken d = .inWindow ↔ d < capacity ∧ (0 < d ∨ taken = false) := by
  rw [classifyOffset]
  split_ifs with inside played early
  · simp [played]
  · have unplayed : 0 < d ∨ taken = false := by
      cases taken with
      | false => exact .inr rfl
      | true => exact .inl (Nat.pos_of_ne_zero fun zero => played ⟨zero, rfl⟩)
    simp [inside, unplayed]
  · simp [inside]
  · simp [inside]

/-- The third row of R76's table. -/
theorem classifyOffset_eq_early_iff {capacity d : Nat} {taken : Bool} :
    classifyOffset capacity taken d = .early ↔ capacity ≤ d ∧ d < 32768 := by
  rw [classifyOffset]
  split_ifs with inside played early
  · simp [inside]
  · simp [inside]
  · simp [Nat.le_of_not_lt inside, early]
  · simp [early]

/-- The second and the fourth row of R76's table: the head packet once taken, and the half of the numbers behind head. -/
theorem classifyOffset_eq_late_iff {capacity d : Nat} {taken : Bool} (low : 0 < capacity) (high : capacity ≤ 32768) :
    classifyOffset capacity taken d = .late ↔ (d = 0 ∧ taken = true) ∨ 32768 ≤ d := by
  rw [classifyOffset]
  split_ifs with inside played early
  · simp [played]
  · have ahead : ¬32768 ≤ d := by omega
    simp [played, ahead]
  · have beyond : d ≠ 0 := by omega
    simp [beyond, early]
  · simp [Nat.le_of_not_lt early]

/-- Settles O47: R76's table row by row from the three characterisations; its examples are computed. -/
theorem offsetClasses : Obligations.OffsetClasses := by
  refine ⟨fun capacity taken head n low high => ?_, ?_, ?_, ?_⟩
  · have late {d : Nat} := classifyOffset_eq_late_iff (d := d) (taken := taken) (Nat.zero_lt_of_lt low)
      (high.trans (by decide))
    exact ⟨seqOffset_eq head n, classifyOffset_eq_inWindow_iff.mpr, fun played => late.mpr (.inl played),
      classifyOffset_eq_early_iff.mpr, fun behind => late.mpr (.inr behind)⟩
  · decide
  · decide
  · decide

end Sys2Proof.Machine
end

section
/-! Which operations leave the supervision units alone: all but those of the supervision unit itself (section 10.1, R154). One
lemma per operation, in the order of the definitions, for the whole field `sup` of the state. -/

namespace Sys2Proof.Machine

/-! ### Attention, lists of steps, and serving a frame -/

@[simp] theorem State.postTo_sup (s : State) (p : Port) (src : Source) (kind : AttnKind) (value : BitVec 16) :
    (s.postTo p src kind value).sup = s.sup := rfl

@[simp] theorem State.post_sup (s : State) (src : Source) (kind : AttnKind) (value : BitVec 16) :
    (s.post src kind value).sup = s.sup := rfl

@[simp] theorem State.updCircuit_sup (s : State) (c : CircuitId) (f : Circuit → Circuit) : (s.updCircuit c f).sup = s.sup := rfl

/-- Steps taken in turn keep the units when each of them does. -/
theorem sup_foldl {α : Type} {f : State → α → State} (keeps : ∀ t x, (f t x).sup = t.sup) (xs : List α) (s : State) :
    (xs.foldl f s).sup = s.sup := by
  induction xs generalizing s with
  | nil => rfl
  | cons x xs ih => exact (ih (f s x)).trans (keeps s x)

/-- A step taken only where it is due. -/
theorem sup_ite_self {b : Prop} [Decidable b] {s t : State} (h : t.sup = s.sup) : (if b then t else s).sup = s.sup := by
  split
  · exact h
  · rfl

/-- What holds of a unit before a frame is served and after the command's own rule holds of it once the frame is served (R149). -/
theorem serve_supUnit {holds : SupUnit → Prop} {p q : Port} {code : Octet}
    {rule : List Octet → State → State × List Octet} {s : State} (idle : holds (s.supUnit q))
    (served : ∀ params, holds ((rule params s).1.supUnit q)) : holds ((serve p code rule s).supUnit q) := by
  obtain same | ⟨params, -, done⟩ := serve_cases p code rule s
  · rwa [same]
  · rw [done, State.setTransit_supUnit]
    exact served params

/-! ### Paths and packetizer -/

@[simp] theorem State.txDrop_sup (s : State) (π : Path) (c : CircuitId) : (s.txDrop π c).sup = s.sup := rfl

@[simp] theorem State.handPacket_sup (s : State) (π : Path) (c : CircuitId) (kind : PacketKind) (number : Seq)
    (packet : List Octet) : (s.handPacket π c kind number packet).sup = s.sup := by
  obtain ⟨k, u, h⟩ := s.handPacket_eq π c kind number packet
  rw [h]
  rfl

@[simp] theorem State.judgeTx_sup (s : State) (c : CircuitId) : (s.judgeTx c).sup = s.sup := by
  obtain ⟨a, attn, h⟩ := s.judgeTx_eq c
  rw [h]
  rfl

@[simp] theorem State.healthStep_sup (s : State) (c : CircuitId) (π : Path) (good : Bool) :
    (s.healthStep c π good).sup = s.sup := by
  obtain ⟨h, attn, e⟩ := s.healthStep_eq c π good
  rw [e]
  rfl

@[simp] theorem State.linkEvent_sup (s : State) (π : Path) (up : Bool) : (s.linkEvent π up).sup = s.sup := by
  simp only [State.linkEvent]
  split
  · rfl
  · exact sup_foldl State.judgeTx_sup _ _

@[simp] theorem State.applySetPaths_sup (s : State) (c : CircuitId) (set : PathSettings) :
    (s.applySetPaths c set).sup = s.sup := by
  simp only [State.applySetPaths]
  split <;> simp

@[simp] theorem State.flushAsTxDrops_sup (s : State) (π : Path) : (s.flushAsTxDrops π).sup = s.sup :=
  sup_foldl (fun t (e : QueueEntry) => t.txDrop_sup π e.circuit) _ _

@[simp] theorem State.applyConfigurePath_sup (s : State) (π : Path) (source : MacAddr) (typeCode : BitVec 16) :
    (s.applyConfigurePath π source typeCode).sup = s.sup :=
  sup_ite_self (s.flushAsTxDrops_sup π)

@[simp] theorem State.completePacket_sup (s : State) (c : CircuitId) : (s.completePacket c).sup = s.sup := by
  simp only [State.completePacket]
  split <;> simp

@[simp] theorem State.handFrame_sup (s : State) (c : CircuitId) (octets : List Octet) (mark : Bool) :
    (s.handFrame c octets mark).sup = s.sup := by
  simp only [State.handFrame]
  split
  · split <;> simp
  · simp

/-! ### Lines -/

@[simp] theorem State.postAlarmChange_sup (s : State) (c : CircuitId) (before : Nat) :
    (s.postAlarmChange c before).sup = s.sup :=
  sup_ite_self (s.post_sup ..)

@[simp] theorem State.enterAligned_sup (s : State) (c : CircuitId) : (s.enterAligned c).sup = s.sup := by
  simp [State.enterAligned]

@[simp] theorem State.framerVerify_sup (s : State) (c : CircuitId) : (s.framerVerify c).sup = s.sup := by
  simp only [State.framerVerify]
  split <;> split <;> simp

@[simp] theorem State.receiveBoundary_sup (s : State) (c : CircuitId) : (s.receiveBoundary c).sup = s.sup :=
  sup_ite_self (s.handFrame_sup ..)

@[simp] theorem State.lineStep_sup (s : State) (c : CircuitId) (k : LineStep) : (s.lineStep c k).sup = s.sup := by
  cases k with
  | losSet | losClear | aisSpanEnd | lossOfAlignment => exact State.postAlarmChange_sup ..
  | search | compare => exact State.updCircuit_sup ..
  | verify => exact s.framerVerify_sup c
  | boundary => exact s.receiveBoundary_sup c

@[simp] theorem State.settleLine_sup (s : State) (c : CircuitId) : (s.settleLine c).sup = s.sup := by
  suffices main : ∀ fuel (t : State), (settleLineFor fuel t c).sup = t.sup from main 2048 s
  intro fuel
  induction fuel with
  | zero => exact fun t => rfl
  | succ fuel ih =>
    intro t
    rw [settleLineFor]
    split
    · rfl
    · rw [ih, State.lineStep_sup]

@[simp] theorem State.crystalBit_sup (s : State) (c : CircuitId) : (s.crystalBit c).sup = s.sup := s.settleLine_sup c

@[simp] theorem State.settleClockLoss_sup (s : State) (c : CircuitId) : (s.settleClockLoss c).sup = s.sup :=
  sup_ite_self (s.updCircuit_sup ..)

theorem crystalBitsFor_sup (fuel : Nat) (s : State) (c : CircuitId) : (crystalBitsFor fuel s c).sup = s.sup := by
  induction fuel generalizing s with
  | zero => rfl
  | succ fuel ih =>
    rw [crystalBitsFor]
    exact sup_ite_self ((ih _).trans (s.crystalBit_sup c))

@[simp] theorem State.trxcEdge_sup (s : State) (c : CircuitId) (mark : Bool) : (s.trxcEdge c mark).sup = s.sup := by
  simp [State.trxcEdge, State.settleClock, crystalBitsFor_sup]

/-! ### Timing -/

@[simp] theorem State.saturate_sup (s : State) (c : CircuitId) (integrator output : Bool) :
    (s.saturate c integrator output).sup = s.sup := by
  obtain ⟨attn, h⟩ := s.saturate_eq c integrator output
  rw [h]
  rfl

@[simp] theorem State.depthSample_sup (s : State) (c : CircuitId) (d : Nat) : (s.depthSample c d).sup = s.sup := by
  obtain ⟨t, attn, h⟩ := s.depthSample_eq c d
  rw [h]
  rfl

theorem applyOffset_sup (offset : Int) (s : State) (c : CircuitId) : (applyOffset offset s c).sup = s.sup := by
  simp only [applyOffset]
  split
  · simp [State.takeOffset]
  · rfl

@[simp] theorem State.handOffset_sup (s : State) (offset : Int) : (s.handOffset offset).sup = s.sup :=
  sup_foldl (applyOffset_sup offset) _ _

@[simp] theorem State.applySetTiming_sup (s : State) (c : CircuitId) (set : TimingSettings) :
    (s.applySetTiming c set).sup = s.sup :=
  sup_ite_self (State.saturate_sup ..)

/-! ### Playout -/

@[simp] theorem State.judgeR_sup (s : State) (c : CircuitId) (r : Bool) : (s.judgeR c r).sup = s.sup := by
  obtain ⟨attn, h⟩ := s.judgeR_eq c r
  rw [h]
  rfl

@[simp] theorem State.afterStore_sup (s : State) (c : CircuitId) : (s.afterStore c).sup = s.sup := by
  obtain ⟨t, r, attn, h⟩ := s.afterStore_eq c
  rw [h]
  rfl

@[simp] theorem State.storePacket_sup (s : State) (c : CircuitId) (π : Path) (a : Arrival) :
    (s.storePacket c π a).sup = s.sup := by
  simp [State.storePacket]

@[simp] theorem State.duplicatePacket_sup (s : State) (c : CircuitId) (π : Path) (n : Seq) :
    (s.duplicatePacket c π n).sup = s.sup := by
  simp [State.duplicatePacket]

@[simp] theorem State.classifiedArrival_sup (s : State) (c : CircuitId) (π : Path) (a : Arrival) (head : Seq) :
    (s.classifiedArrival c π a head).sup = s.sup := by
  simp only [State.classifiedArrival]
  split
  · split <;> simp
  · simp
  · simp

@[simp] theorem State.dataArrival_sup (s : State) (c : CircuitId) (π : Path) (a : Arrival) :
    (s.dataArrival c π a).sup = s.sup := by
  simp only [State.dataArrival]
  split
  · rfl
  · split
    · simp
    · split
      · simp
      · split <;> simp

@[simp] theorem State.takeIfDue_sup (s : State) (c : CircuitId) (head : Seq) : (s.takeIfDue c head).sup = s.sup := by
  simp only [State.takeIfDue]
  split
  · split
    · exact sup_foldl (fun t π => t.healthStep_sup c π false) _ _
    · simp
  · rfl

@[simp] theorem State.transmitBoundary_sup (s : State) (c : CircuitId) : (s.transmitBoundary c).sup = s.sup := by
  simp only [State.transmitBoundary, State.updCircuit_sup]
  split
  · exact s.takeIfDue_sup c _
  · simp

/-! ### Probes -/

@[simp] theorem probeDue_sup (c : CircuitId) (s : State) (π : Path) : (probeDue c s π).sup = s.sup := by
  simp only [probeDue]
  split
  · rfl
  · split
    · simp
    · simp [State.handProbe]

@[simp] theorem State.probeTimerExpiry_sup (s : State) (c : CircuitId) : (s.probeTimerExpiry c).sup = s.sup :=
  sup_foldl (probeDue_sup c) _ _

@[simp] theorem State.probeDeparted_sup (s : State) (c : CircuitId) (π : Path) (number : Seq) (t1 : Time) :
    (s.probeDeparted c π number t1).sup = s.sup :=
  sup_ite_self (s.setCircuit_sup ..)

@[simp] theorem State.answerProbe_sup (s : State) (c : CircuitId) (π : Path) (arrival : Time) (number : Seq)
    (t1 : List Octet) : (s.answerProbe c π arrival number t1).sup = s.sup :=
  s.handPacket_sup ..

@[simp] theorem State.judgeDelay_sup (s : State) (c : CircuitId) (π : Path) : (s.judgeDelay c π).sup = s.sup := by
  obtain ⟨alarm, attn, h⟩ := s.judgeDelay_eq c π
  rw [h]
  rfl

@[simp] theorem State.judgeAsymmetry_sup (s : State) (c : CircuitId) : (s.judgeAsymmetry c).sup = s.sup := by
  obtain ⟨alarm, attn, h⟩ := s.judgeAsymmetry_eq c
  rw [h]
  rfl

@[simp] theorem State.delaySample_sup (s : State) (c : CircuitId) (π : Path) (sample : Nat) :
    (s.delaySample c π sample).sup = s.sup := by
  simp [State.delaySample]

@[simp] theorem State.echoArrival_sup (s : State) (c : CircuitId) (π : Path) (t4 : Time) (number : Seq) (t2 t3 : Time) :
    (s.echoArrival c π t4 number t2 t3).sup = s.sup := by
  simp only [State.echoArrival]
  split
  · simp
  · split <;> simp

@[simp] theorem State.applySetProbing_sup (s : State) (c : CircuitId) (set : ProbeSettings) :
    (s.applySetProbing c set).sup = s.sup := by
  simp only [State.applySetProbing]
  split <;> simp

/-! ### The circuit table -/

@[simp] theorem State.enterClosed_sup (s : State) (c : CircuitId) : (s.enterClosed c).sup = s.sup := rfl

@[simp] theorem State.changeTo_sup (s : State) (c : CircuitId) (v : Circuit) : (s.changeTo c v).sup = s.sup := rfl

@[simp] theorem State.openCircuit_sup (s : State) (c : CircuitId) (layout : Layout) :
    (s.openCircuit c layout).sup = s.sup := by
  simp only [State.openCircuit, State.postCircuitState, State.post_sup, State.postOpenAlarms]
  split <;> simp

@[simp] theorem State.takeUnderrun_sup (s : State) (c : CircuitId) (head : Seq) : (s.takeUnderrun c head).sup = s.sup := by
  simp only [State.takeUnderrun]
  split <;> simp

@[simp] theorem State.settleUnderrun_sup (s : State) (c : CircuitId) : (s.settleUnderrun c).sup = s.sup := by
  unfold State.settleUnderrun
  split <;> simp

@[simp] theorem State.closeSettled_sup (s : State) (c : CircuitId) (limit : Nat) : (s.closeSettled c limit).sup = s.sup := by
  simp only [State.closeSettled]
  split
  · simp
  · split <;> simp

@[simp] theorem State.closeCircuit_sup (s : State) (p : Port) (c : CircuitId) (limit : Nat) :
    (s.closeCircuit p c limit).sup = s.sup := by
  rw [State.closeCircuit, State.closeSettled_sup]
  exact sup_ite_self (s.settleUnderrun_sup c)

@[simp] theorem State.takeAcquisitionComplete_sup (s : State) (c : CircuitId) :
    (s.takeAcquisitionComplete c).sup = s.sup := by
  simp only [State.takeAcquisitionComplete]
  split <;> simp

@[simp] theorem State.takeOverrun_sup (s : State) (c : CircuitId) (n : Seq) : (s.takeOverrun c n).sup = s.sup := by
  simp only [State.takeOverrun]
  split <;> simp

@[simp] theorem State.takeDrainComplete_sup (s : State) (c : CircuitId) : (s.takeDrainComplete c).sup = s.sup := by
  simp only [State.takeDrainComplete]
  split <;> simp

/-! ### Network and reference -/

@[simp] theorem State.depart_sup (s : State) (π : Path) (e : QueueEntry) : (s.depart π e).sup = s.sup := by
  simp only [State.depart]
  split <;> simp

@[simp] theorem State.receiveClassified_sup (s : State) (π : Path) (k : RxClass) : (s.receiveClassified π k).sup = s.sup := by
  cases k with
  | format | unknownTag => exact s.setPath_sup ..
  | data c a => exact s.dataArrival_sup c π a
  | probe c number t1 => exact s.answerProbe_sup ..
  | echo c number t2 t3 => exact s.echoArrival_sup ..

@[simp] theorem State.receiveFrame_sup (s : State) (π : Path) (octets : List Octet) :
    (s.receiveFrame π octets).sup = s.sup := by
  simp only [State.receiveFrame]
  split
  · simp
  · exact sup_ite_self (s.receiveClassified_sup ..)

@[simp] theorem State.postRefChange_sup (s : State) (left entered : RefState) :
    (s.postRefChange left entered).sup = s.sup := by
  unfold State.postRefChange
  split <;> simp

@[simp] theorem State.settleWindow_sup (s : State) : s.settleWindow.sup = s.sup := by
  unfold State.settleWindow
  split
  · simp only [State.completeWindow]
    split <;> simp
  · rfl

/-! ### Ports and authority -/

@[simp] theorem State.handOn_sup (s : State) (p : Port) (f : CommandFrame) : (s.handOn p f).sup = s.sup := by
  unfold State.handOn
  split <;> simp

@[simp] theorem State.settlePort_sup (s : State) (p : Port) : (s.settlePort p).sup = s.sup := by
  obtain ⟨u, x, h⟩ := s.settlePort_eq p
  rw [h]
  rfl

@[simp] theorem State.startTransaction_sup (s : State) (p : Port) : (s.startTransaction p).sup = s.sup := by
  simp only [State.startTransaction]
  split <;> simp

@[simp] theorem State.inputOctet_sup (s : State) (p : Port) (o : Octet) : (s.inputOctet p o).sup = s.sup := by
  unfold State.inputOctet
  split <;> simp

@[simp] theorem State.endTransaction_sup (s : State) (p : Port) : (s.endTransaction p).sup = s.sup :=
  sup_ite_self (s.setPort_sup ..)

@[simp] theorem State.resultArrives_sup (s : State) (p : Port) (r : List Octet) : (s.resultArrives p r).sup = s.sup := by
  simp only [State.resultArrives]
  split
  · split <;> simp
  · exact sup_ite_self rfl

@[simp] theorem State.grantAuthority_sup (s : State) (p : Port) : (s.grantAuthority p).sup = s.sup := rfl

@[simp] theorem State.passAuthority_sup (s : State) (p : Port) : (s.passAuthority p).sup = s.sup := rfl

end Sys2Proof.Machine
end

section
/-! Who changes a supervision unit: only its own port's supervision commands and timers, and device reset (section 10.1, R154). -/

namespace Sys2Proof.Machine

/-! ### The rules of the other commands -/

theorem ruleCollectAttention_sup (p : Port) (ps : List Octet) (s : State) : (ruleCollectAttention p ps s).1.sup = s.sup := by
  unfold ruleCollectAttention
  split <;> rfl

theorem ruleReadCounters_sup (ps : List Octet) (s : State) : (ruleReadCounters ps s).1.sup = s.sup := by
  unfold ruleReadCounters
  split <;> rfl

theorem ruleSetPaths_sup (ps : List Octet) (s : State) : (ruleSetPaths ps s).1.sup = s.sup := by
  unfold ruleSetPaths
  split <;> simp

theorem ruleConfigurePath_sup (ps : List Octet) (s : State) : (ruleConfigurePath ps s).1.sup = s.sup := by
  unfold ruleConfigurePath
  split <;> simp

theorem ruleSetTiming_sup (ps : List Octet) (s : State) : (ruleSetTiming ps s).1.sup = s.sup := by
  unfold ruleSetTiming
  split <;> simp

theorem ruleReadTiming_sup (p : Port) (ps : List Octet) (s : State) : (ruleReadTiming p ps s).1.sup = s.sup := by
  unfold ruleReadTiming
  split <;> rfl

theorem ruleSetPlayout_sup (ps : List Octet) (s : State) : (ruleSetPlayout ps s).1.sup = s.sup := by
  unfold ruleSetPlayout
  split <;> rfl

theorem ruleReadPlayout_sup (ps : List Octet) (s : State) : (ruleReadPlayout ps s).1.sup = s.sup := by
  unfold ruleReadPlayout
  split <;> rfl

theorem ruleSetProbing_sup (ps : List Octet) (s : State) : (ruleSetProbing ps s).1.sup = s.sup := by
  unfold ruleSetProbing
  split <;> simp

theorem ruleReadDelay_sup (p : Port) (ps : List Octet) (s : State) : (ruleReadDelay p ps s).1.sup = s.sup := by
  unfold ruleReadDelay
  split <;> rfl

theorem ruleOpenCircuit_sup (ps : List Octet) (s : State) : (ruleOpenCircuit ps s).1.sup = s.sup := by
  unfold ruleOpenCircuit
  split
  · rfl
  · split_ifs <;> simp

theorem ruleCloseCircuit_sup (p : Port) (ps : List Octet) (s : State) : (ruleCloseCircuit p ps s).1.sup = s.sup := by
  unfold ruleCloseCircuit
  split
  · rfl
  · split_ifs <;> simp

theorem ruleHoldCircuit_sup (ps : List Octet) (s : State) : (ruleHoldCircuit ps s).1.sup = s.sup := by
  unfold ruleHoldCircuit
  split
  · rfl
  · split_ifs <;> simp

theorem ruleResumeCircuit_sup (ps : List Octet) (s : State) : (ruleResumeCircuit ps s).1.sup = s.sup := by
  unfold ruleResumeCircuit
  split
  · rfl
  · split_ifs <;> simp

theorem ruleReadCircuit_sup (ps : List Octet) (s : State) : (ruleReadCircuit ps s).1.sup = s.sup := by
  unfold ruleReadCircuit
  split <;> rfl

theorem ruleReadPaths_sup (ps : List Octet) (s : State) : (ruleReadPaths ps s).1.sup = s.sup := by
  unfold ruleReadPaths
  split <;> rfl

theorem ruleConfigureReference_sup (ps : List Octet) (s : State) : (ruleConfigureReference ps s).1.sup = s.sup := by
  unfold ruleConfigureReference
  split <;> rfl

theorem ruleReadReference_sup (ps : List Octet) (s : State) : (ruleReadReference ps s).1.sup = s.sup := by
  unfold ruleReadReference
  split <;> rfl

theorem ruleTakeAuthority_sup (p : Port) (ps : List Octet) (s : State) : (ruleTakeAuthority p ps s).1.sup = s.sup := by
  unfold ruleTakeAuthority
  split
  · rfl
  · split_ifs <;> simp

theorem ruleYieldAuthority_sup (p : Port) (ps : List Octet) (s : State) : (ruleYieldAuthority p ps s).1.sup = s.sup := by
  unfold ruleYieldAuthority
  split
  · rfl
  · split_ifs <;> simp

/-! ### The commands and timers of the supervision unit -/

@[simp] theorem State.supEvent_supUnit_self (s : State) (p : Port) (e : SupEffect) :
    (s.supEvent p e).supUnit p = e.final s.localTime := by
  obtain ⟨holder, attn, u, x, h⟩ := s.supEvent_eq p e
  rw [h]
  exact s.supUnit_setSup_self p _

theorem State.supEvent_supUnit_ne (s : State) {p q : Port} (e : SupEffect) (h : q ≠ p) :
    (s.supEvent p e).supUnit q = s.supUnit q := by
  obtain ⟨holder, attn, u, x, done⟩ := s.supEvent_eq p e
  rw [done]
  exact s.supUnit_setSup_ne _ h

section OtherPort

variable {p q : Port} (ps : List Octet) (s : State) (h : q ≠ p)
include h

theorem ruleFetchChallenge_supUnit_ne : (ruleFetchChallenge p ps s).1.supUnit q = s.supUnit q := by
  unfold ruleFetchChallenge
  split
  · rfl
  · exact s.supEvent_supUnit_ne _ h

theorem ruleSubmitAnswer_supUnit_ne : (ruleSubmitAnswer p ps s).1.supUnit q = s.supUnit q := by
  unfold ruleSubmitAnswer
  split
  · rfl
  · split_ifs
    · rfl
    · exact s.supEvent_supUnit_ne _ h

theorem ruleReadSupervision_supUnit_ne : (ruleReadSupervision p ps s).1.supUnit q = s.supUnit q := by
  unfold ruleReadSupervision
  split
  · rfl
  · exact s.supUnit_setSup_ne _ h

theorem ruleConfigureSupervision_supUnit_ne : (ruleConfigureSupervision p ps s).1.supUnit q = s.supUnit q := by
  unfold ruleConfigureSupervision
  split
  · rfl
  · split
    · rfl
    · exact s.supEvent_supUnit_ne _ h

end OtherPort

/-! ### Every command -/

/-- A command that comes to a next state leaves the supervision unit of port `p` as it was. -/
def KeepsSupUnit (p : Port) (s : State) (r : Result) : Prop := ∀ t : State, r = .next t → t.supUnit p = s.supUnit p

section Keeps

variable {p q : Port} {s t : State} {code : Octet} {rule : List Octet → State → State × List Octet}

theorem keepsSupUnit_next (h : t.supUnit p = s.supUnit p) : KeepsSupUnit p s (.next t) := by
  rintro _ ⟨⟩
  exact h

theorem keepsSupUnit_of_sup (h : t.sup = s.sup) : KeepsSupUnit p s (.next t) :=
  keepsSupUnit_next (congrArg (PerPort.get · p) h)

theorem keepsSupUnit_serve (h : ∀ ps, (rule ps s).1.supUnit p = s.supUnit p) :
    KeepsSupUnit p s (.next (serve q code rule s)) :=
  keepsSupUnit_next (serve_supUnit (holds := (· = s.supUnit p)) rfl h)

theorem keepsSupUnit_serve_of_sup (h : ∀ ps, (rule ps s).1.sup = s.sup) :
    KeepsSupUnit p s (.next (serve q code rule s)) :=
  keepsSupUnit_serve fun ps => congrArg (PerPort.get · p) (h ps)

end Keeps

theorem execStatusOctetSent_keepsSupUnit (p q : Port) (s : State) : KeepsSupUnit p s (execStatusOctetSent q s) := by
  unfold execStatusOctetSent
  split
  · split_ifs <;> exact keepsSupUnit_of_sup rfl
  · exact keepsSupUnit_of_sup rfl

theorem execResultOctetSent_keepsSupUnit (p q : Port) (s : State) : KeepsSupUnit p s (execResultOctetSent q s) := by
  unfold execResultOctetSent
  split
  · split_ifs <;> exact keepsSupUnit_of_sup rfl
  · exact keepsSupUnit_of_sup rfl

theorem execResultArrival_keepsSupUnit (p q : Port) (s : State) : KeepsSupUnit p s (execResultArrival q s) := by
  unfold execResultArrival
  split
  · exact keepsSupUnit_of_sup (s.resultArrives_sup q _)
  · exact keepsSupUnit_of_sup rfl

theorem execOverrun_keepsSupUnit (p : Port) (c : CircuitId) (s : State) : KeepsSupUnit p s (execOverrun c s) := by
  unfold execOverrun
  split
  · exact keepsSupUnit_of_sup (s.takeOverrun_sup c _)
  · exact keepsSupUnit_of_sup rfl

theorem execFrameDeparture_keepsSupUnit (p : Port) (π : Path) (s : State) : KeepsSupUnit p s (execFrameDeparture π s) := by
  unfold execFrameDeparture
  split
  · exact keepsSupUnit_of_sup (s.depart_sup π _)
  · exact keepsSupUnit_of_sup rfl

/-- The commands and timers of the supervision unit of port `p`, which alone change it (section 10.1). -/
def supervisionOf (p : Port) : List Instr :=
  [.fetchChallenge p, .submitAnswer p, .readSupervision p, .configureSupervision p, .windowTimerExpiry p, .crstTimerExpiry p]

/-- A supervision unit is changed by its own port's supervision commands and timers, by device reset, and by nothing else
(section 10.1, R154). -/
theorem exec_keepsSupUnit {i : Instr} {p : Port} (s : State) (reset : i ≠ .deviceReset) (other : i ∉ supervisionOf p) :
    KeepsSupUnit p s (exec i s) := by
  simp only [supervisionOf, List.mem_cons, List.not_mem_nil, or_false, not_or] at other
  obtain ⟨fetch, answer, read, configure, window, crst⟩ := other
  cases i with
  | deviceReset => exact absurd rfl reset
  -- The supervision unit of a port: it is the other port's.
  | fetchChallenge q => exact keepsSupUnit_serve fun ps => ruleFetchChallenge_supUnit_ne ps s fun e => fetch (e ▸ rfl)
  | submitAnswer q => exact keepsSupUnit_serve fun ps => ruleSubmitAnswer_supUnit_ne ps s fun e => answer (e ▸ rfl)
  | readSupervision q => exact keepsSupUnit_serve fun ps => ruleReadSupervision_supUnit_ne ps s fun e => read (e ▸ rfl)
  | configureSupervision q =>
    exact keepsSupUnit_serve fun ps => ruleConfigureSupervision_supUnit_ne ps s fun e => configure (e ▸ rfl)
  | windowTimerExpiry q =>
    refine keepsSupUnit_next ?_
    split
    · exact s.supEvent_supUnit_ne _ fun e => window (e ▸ rfl)
    · rfl
  | crstTimerExpiry q =>
    refine keepsSupUnit_next ?_
    split
    · exact s.supUnit_setSup_ne _ fun e => crst (e ▸ rfl)
    · rfl
  -- Ports and authority
  | startUpEnd => exact keepsSupUnit_of_sup (sup_ite_self rfl)
  | resetNRelease => exact keepsSupUnit_of_sup (sup_ite_self rfl)
  | transactionStart q => exact keepsSupUnit_of_sup (by simp)
  | transactionEnd q => exact keepsSupUnit_of_sup (by simp)
  | writtenOctet q o => exact keepsSupUnit_of_sup (by simp)
  | commandFrameComplete q => exact keepsSupUnit_of_sup (s.settlePort_sup q)
  | statusOctetSent q => exact execStatusOctetSent_keepsSupUnit p q s
  | resultOctetSent q => exact execResultOctetSent_keepsSupUnit p q s
  | resultArrival q => exact execResultArrival_keepsSupUnit p q s
  | takeAuthority q => exact keepsSupUnit_serve_of_sup fun ps => ruleTakeAuthority_sup q ps s
  | yieldAuthority q => exact keepsSupUnit_serve_of_sup fun ps => ruleYieldAuthority_sup q ps s
  | collectAttention q => exact keepsSupUnit_serve_of_sup fun ps => ruleCollectAttention_sup q ps s
  | readCounters q => exact keepsSupUnit_serve_of_sup fun ps => ruleReadCounters_sup ps s
  -- The circuit table
  | openCircuit q => exact keepsSupUnit_serve_of_sup fun ps => ruleOpenCircuit_sup ps s
  | closeCircuit q => exact keepsSupUnit_serve_of_sup fun ps => ruleCloseCircuit_sup q ps s
  | holdCircuit q => exact keepsSupUnit_serve_of_sup fun ps => ruleHoldCircuit_sup ps s
  | resumeCircuit q => exact keepsSupUnit_serve_of_sup fun ps => ruleResumeCircuit_sup ps s
  | readCircuit q => exact keepsSupUnit_serve_of_sup fun ps => ruleReadCircuit_sup ps s
  | acquisitionComplete c => exact keepsSupUnit_of_sup (sup_ite_self (s.takeAcquisitionComplete_sup c))
  | underrun c => exact keepsSupUnit_of_sup (s.settleUnderrun_sup c)
  | overrun c => exact execOverrun_keepsSupUnit p c s
  | drainComplete c => exact keepsSupUnit_of_sup (sup_ite_self (s.takeDrainComplete_sup c))
  | drainLimitExpiry c => exact keepsSupUnit_of_sup (sup_ite_self (s.enterClosed_sup c))
  | acquisitionTimerExpiry c => exact keepsSupUnit_of_sup (sup_ite_self rfl)
  -- The settings of a circuit and their reads
  | setTiming q => exact keepsSupUnit_serve_of_sup fun ps => ruleSetTiming_sup ps s
  | setPaths q => exact keepsSupUnit_serve_of_sup fun ps => ruleSetPaths_sup ps s
  | setProbing q => exact keepsSupUnit_serve_of_sup fun ps => ruleSetProbing_sup ps s
  | setPlayout q => exact keepsSupUnit_serve_of_sup fun ps => ruleSetPlayout_sup ps s
  | readPlayout q => exact keepsSupUnit_serve_of_sup fun ps => ruleReadPlayout_sup ps s
  | readTiming q => exact keepsSupUnit_serve_of_sup fun ps => ruleReadTiming_sup q ps s
  | readPaths q => exact keepsSupUnit_serve_of_sup fun ps => ruleReadPaths_sup ps s
  | readDelay q => exact keepsSupUnit_serve_of_sup fun ps => ruleReadDelay_sup q ps s
  -- The reference monitor and the path units
  | configureReference q => exact keepsSupUnit_serve_of_sup fun ps => ruleConfigureReference_sup ps s
  | readReference q => exact keepsSupUnit_serve_of_sup fun ps => ruleReadReference_sup ps s
  | configurePath q => exact keepsSupUnit_serve_of_sup fun ps => ruleConfigurePath_sup ps s
  | referenceWindowStart => exact keepsSupUnit_of_sup s.settleWindow_sup
  | refEdge => exact keepsSupUnit_of_sup s.settleWindow_sup
  | referenceWindowCompletion => exact keepsSupUnit_of_sup s.settleWindow_sup
  | absenceExpiry => exact keepsSupUnit_of_sup (sup_ite_self (State.postRefChange_sup ..))
  | linkEvent π up => exact keepsSupUnit_of_sup (s.linkEvent_sup π up)
  | frameDeparture π => exact execFrameDeparture_keepsSupUnit p π s
  | frameReceived π octets => exact keepsSupUnit_of_sup (s.receiveFrame_sup π octets)
  | probeTimerExpiry c => exact keepsSupUnit_of_sup (sup_ite_self (s.probeTimerExpiry_sup c))
  -- The lines
  | receiveBitPeriod c mark =>
    refine keepsSupUnit_of_sup ?_
    split
    · exact sup_ite_self (s.crystalBit_sup c)
    · exact s.trxcEdge_sup c mark
  | receiveClockLoss c => exact keepsSupUnit_of_sup (s.settleClockLoss_sup c)
  | receiveClockReturn c mark => exact keepsSupUnit_of_sup (s.trxcEdge_sup c mark)
  | losSet c => exact keepsSupUnit_of_sup (sup_ite_self (s.lineStep_sup c .losSet))
  | losClear c => exact keepsSupUnit_of_sup (sup_ite_self (s.lineStep_sup c .losClear))
  | aisSpanEnd c => exact keepsSupUnit_of_sup (sup_ite_self (s.lineStep_sup c .aisSpanEnd))
  | framerSearchOctet c => exact keepsSupUnit_of_sup (sup_ite_self (s.lineStep_sup c .search))
  | framerVerifyTest c => exact keepsSupUnit_of_sup (sup_ite_self (s.lineStep_sup c .verify))
  | framerAlignedCompare c => exact keepsSupUnit_of_sup (sup_ite_self (s.lineStep_sup c .compare))
  | lossOfAlignment c => exact keepsSupUnit_of_sup (sup_ite_self (s.lineStep_sup c .lossOfAlignment))
  | receiveFrameBoundary c => exact keepsSupUnit_of_sup (sup_ite_self (s.lineStep_sup c .boundary))
  | transmitFrameBoundary c => exact keepsSupUnit_of_sup (sup_ite_self (s.transmitBoundary_sup c))

end Sys2Proof.Machine
end

section
/-! The challenge register, the expected answer and the answer-correct mark (R157, R159, R160). -/

namespace Sys2Proof.Machine

/-! ### An advance, bit by bit -/

theorem challengeAdvance_getLsbD_succ (v : BitVec 16) {i : Nat} (h : i < 15) :
    (challengeAdvance v).getLsbD (i + 1) = v.getLsbD i := by
  have within : i + 1 < 16 := by omega
  rw [challengeAdvance, BitVec.getLsbD_or, BitVec.getLsbD_shiftLeft]
  split <;> simp [within]

theorem challengeAdvance_getLsbD_zero (v : BitVec 16) :
    (challengeAdvance v).getLsbD 0 = ((v.getLsbD 15).xor (v.getLsbD 14)).xor ((v.getLsbD 12).xor (v.getLsbD 3)) := by
  rw [challengeAdvance]
  generalize ((v.getLsbD 15).xor (v.getLsbD 14)).xor ((v.getLsbD 12).xor (v.getLsbD 3)) = bit
  cases bit <;> simp

/-- An advance can be undone: bits 0 to 14 stand one place higher, and bit 15 is what they leave of the new bit 0. -/
theorem challengeAdvance_injective : Function.Injective challengeAdvance := by
  intro v w same
  have low : ∀ i < 15, v.getLsbD i = w.getLsbD i := fun i h => by
    rw [← challengeAdvance_getLsbD_succ v h, same, challengeAdvance_getLsbD_succ w h]
  have top : v.getLsbD 15 = w.getLsbD 15 := by
    have zero := challengeAdvance_getLsbD_zero v
    rw [same, challengeAdvance_getLsbD_zero w, low 14 (by decide), low 12 (by decide), low 3 (by decide)] at zero
    simpa using zero.symm
  refine BitVec.eq_of_getLsbD_eq fun i h => ?_
  obtain below | rfl : i < 15 ∨ i = 15 := by omega
  · exact low i below
  · exact top

theorem challengeAdvance_ne_zero {v : BitVec 16} (h : v ≠ 0) : challengeAdvance v ≠ 0 :=
  fun zero => h (challengeAdvance_injective (zero.trans (by decide : 0 = challengeAdvance 0)))

/-! ### The expected answer -/

theorem expectedAnswer_getLsbD_high (challenge key : BitVec 16) (i : Nat) :
    (expectedAnswer challenge key).getLsbD (16 + i) = (challenge.getLsbD i).xor (key.getLsbD i) :=
  BitVec.getLsbD_append.trans (by simp)

theorem expectedAnswer_getLsbD_low (challenge key : BitVec 16) {i : Nat} (h : i < 16) :
    (expectedAnswer challenge key).getLsbD i = !((challenge.getLsbD i).xor (key.getLsbD i)) :=
  BitVec.getLsbD_append.trans (by simp [h])

/-- The octets of Submit Answer are read as the answer that they spell (R160). -/
theorem parseAnswer_answerParams (answer : BitVec 32) : parseAnswer (answerParams answer) = .ok answer := by
  have range := answer.isLt
  simp only [answerParams, be, parseAnswer, fromBe, List.foldl_cons, List.foldl_nil, BitVec.toNat_ofNat]
  congr 1
  apply BitVec.eq_of_toNat_eq
  rw [BitVec.toNat_ofNat]
  omega

/-! ### What a step of the unit leaves of the register and the mark -/

@[simp] theorem SupUnit.stepBad_challenge (u : SupUnit) : u.stepBad.challenge = u.challenge := by
  simp only [SupUnit.stepBad]
  split <;> rfl

@[simp] theorem SupUnit.stepBad_answerCorrect (u : SupUnit) : u.stepBad.answerCorrect = u.answerCorrect := by
  simp only [SupUnit.stepBad]
  split <;> rfl

@[simp] theorem SupUnit.stepGood_challenge (u : SupUnit) : u.stepGood.challenge = u.challenge := rfl

@[simp] theorem SupUnit.stepGood_answerCorrect (u : SupUnit) : u.stepGood.answerCorrect = u.answerCorrect := rfl

@[simp] theorem SupUnit.penalty_challenge (u : SupUnit) (f : SupFlag) : (u.penalty f).unit.challenge = u.challenge :=
  SupUnit.stepBad_challenge _

@[simp] theorem SupUnit.penalty_answerCorrect (u : SupUnit) (f : SupFlag) :
    (u.penalty f).unit.answerCorrect = u.answerCorrect :=
  SupUnit.stepBad_answerCorrect _

@[simp] theorem SupEffect.final_challenge (e : SupEffect) (now : Time) : (e.final now).challenge = e.unit.challenge := by
  unfold SupEffect.final
  split <;> rfl

@[simp] theorem SupEffect.final_answerCorrect (e : SupEffect) (now : Time) :
    (e.final now).answerCorrect = e.unit.answerCorrect := by
  unfold SupEffect.final
  split <;> rfl

@[simp] theorem SupUnit.refresh_challenge (u : SupUnit) :
    u.refresh.challenge = if u.answerCorrect then challengeAdvance u.challenge else u.challenge := by
  unfold SupUnit.refresh
  split <;> rfl

/-! ### The register through the events of the unit -/

/-- The register keeps its value, or the answer-correct mark is set and it advances once. -/
def SupUnit.KeepsOrAdvances (u w : SupUnit) : Prop :=
  w.challenge = u.challenge ∨ (u.answerCorrect = true ∧ w.challenge = challengeAdvance u.challenge)

theorem SupUnit.keepsOrAdvances_refresh {u w : SupUnit} (challenge : w.challenge = u.challenge)
    (mark : w.answerCorrect = u.answerCorrect) : u.KeepsOrAdvances w.refresh := by
  simp only [SupUnit.KeepsOrAdvances, SupUnit.refresh_challenge, challenge, mark]
  split
  · next set => exact .inr ⟨set, rfl⟩
  · exact .inl rfl

/-- A fetch advances the register at most once, and only with the mark set; one out of turn never does (R159). -/
theorem SupUnit.fetch_keepsOrAdvances (u : SupUnit) (now : Time) : u.KeepsOrAdvances (u.fetch now).unit := by
  unfold SupUnit.fetch
  split
  · exact SupUnit.keepsOrAdvances_refresh rfl rfl
  · cases u.fetchJudgement now with
    | early | late => exact SupUnit.keepsOrAdvances_refresh (u.penalty_challenge _) (u.penalty_answerCorrect _)
    | inside => exact SupUnit.keepsOrAdvances_refresh u.stepGood_challenge u.stepGood_answerCorrect
  · exact .inl (u.penalty_challenge _)

theorem SupUnit.answerStep_challenge (u : SupUnit) (answer : BitVec 32) (now : Time) :
    (u.answerStep answer now).unit.challenge = u.challenge := by
  unfold SupUnit.answerStep
  split
  · exact u.penalty_challenge _
  · exact u.penalty_challenge _
  · split
    · rfl
    · exact u.penalty_challenge _

theorem SupUnit.answer_challenge (u : SupUnit) (answer : BitVec 32) (now : Time) :
    (u.answer answer now).unit.challenge = u.challenge := by
  unfold SupUnit.answer
  split
  · exact u.answerStep_challenge answer now
  · exact u.penalty_challenge _
  · rfl

theorem SupUnit.configure_challenge {u : SupUnit} {set : SupSettings} {now : Time} {e : SupEffect}
    (h : u.configure set now = .ok e) : e.unit.challenge = u.challenge := by
  unfold SupUnit.configure at h
  split_ifs at h <;> cases h
  · rfl
  · rfl
  · exact SupUnit.penalty_challenge _ _

theorem SupUnit.timeout_challenge (u : SupUnit) (now : Time) : (u.timeout now).unit.challenge = u.challenge := by
  simp only [SupUnit.timeout]
  split <;> exact u.penalty_challenge _

/-- Within the window the mark is set exactly by the answer that the stored key makes of the challenge (R157, R160). -/
theorem SupUnit.answer_answerCorrect {u : SupUnit} (answer : BitVec 32) {now : Time} (awaiting : u.state = .awaitAnswer)
    (inside : judgeWindow u.settings.answerOpen u.settings.answerClose (u.windowElapsed now) = .inside) :
    (u.answer answer now).unit.answerCorrect =
      if answer = expectedAnswer u.challenge u.settings.key then true else u.answerCorrect := by
  simp only [SupUnit.answer, awaiting, SupUnit.answerStep, inside]
  split
  · rfl
  · exact u.penalty_answerCorrect _

/-! ### The register through the commands and timers of its port -/

section OwnPort

variable (p : Port) (s : State)

theorem ruleFetchChallenge_keepsOrAdvances (ps : List Octet) :
    (s.supUnit p).KeepsOrAdvances ((ruleFetchChallenge p ps s).1.supUnit p) := by
  unfold ruleFetchChallenge
  split
  · exact .inl rfl
  · simpa [SupUnit.KeepsOrAdvances] using (s.supUnit p).fetch_keepsOrAdvances s.localTime

theorem ruleSubmitAnswer_challenge (ps : List Octet) :
    ((ruleSubmitAnswer p ps s).1.supUnit p).challenge = (s.supUnit p).challenge := by
  unfold ruleSubmitAnswer
  split
  · rfl
  · split_ifs
    · rfl
    · simp [SupUnit.answer_challenge]

theorem ruleReadSupervision_challenge (ps : List Octet) :
    ((ruleReadSupervision p ps s).1.supUnit p).challenge = (s.supUnit p).challenge := by
  unfold ruleReadSupervision
  split
  · rfl
  · simp

theorem ruleConfigureSupervision_challenge (ps : List Octet) :
    ((ruleConfigureSupervision p ps s).1.supUnit p).challenge = (s.supUnit p).challenge := by
  unfold ruleConfigureSupervision
  split
  · rfl
  · split
    · rfl
    · next e configured => simpa using SupUnit.configure_challenge configured

end OwnPort

theorem serve_challenge {p : Port} {code : Octet} {rule : List Octet → State → State × List Octet} {s : State}
    (h : ∀ ps, ((rule ps s).1.supUnit p).challenge = (s.supUnit p).challenge) :
    ((serve p code rule s).supUnit p).challenge = (s.supUnit p).challenge :=
  serve_supUnit (holds := fun u => u.challenge = (s.supUnit p).challenge) rfl h

/-- In a command or timer of its own port's unit a register moves at a fetch alone (R157). -/
theorem exec_supervisionOf_challenge {i : Instr} {s t : State} {p : Port} (own : i ∈ supervisionOf p)
    (h : exec i s = .next t) :
    (t.supUnit p).challenge = (s.supUnit p).challenge
      ∨ (i = .fetchChallenge p ∧ (s.supUnit p).KeepsOrAdvances (t.supUnit p)) := by
  simp only [supervisionOf, List.mem_cons, List.not_mem_nil, or_false] at own
  obtain rfl | rfl | rfl | rfl | rfl | rfl := own <;> cases h
  · exact .inr ⟨rfl, serve_supUnit (.inl rfl) (ruleFetchChallenge_keepsOrAdvances p s)⟩
  · exact .inl (serve_challenge (ruleSubmitAnswer_challenge p s))
  · exact .inl (serve_challenge (ruleReadSupervision_challenge p s))
  · exact .inl (serve_challenge (ruleConfigureSupervision_challenge p s))
  · left
    split
    · simp [SupUnit.timeout_challenge]
    · rfl
  · left
    split
    · simp
    · rfl

theorem deviceReset_challenge (s : State) (p : Port) :
    (s.deviceReset.supUnit p).challenge = if p = .cp0 then 0x1A2B else 0x3C4D := by
  cases p <;> rfl

/-- Every move of a register: none, an advance at a fetch of its own port that finds the mark set, or its seed (R157). -/
theorem exec_challenge {i : Instr} {s t : State} (p : Port) (h : exec i s = .next t) :
    (t.supUnit p).challenge = (s.supUnit p).challenge
      ∨ (i = .fetchChallenge p ∧ (s.supUnit p).answerCorrect = true
          ∧ (t.supUnit p).challenge = challengeAdvance (s.supUnit p).challenge)
      ∨ (i = .deviceReset ∧ (t.supUnit p).challenge = if p = .cp0 then 0x1A2B else 0x3C4D) := by
  by_cases reset : i = .deviceReset
  · subst reset
    cases h
    exact .inr (.inr ⟨rfl, deviceReset_challenge s p⟩)
  · by_cases own : i ∈ supervisionOf p
    · obtain kept | ⟨fetch, kept | advanced⟩ := exec_supervisionOf_challenge own h
      · exact .inl kept
      · exact .inl kept
      · exact .inr (.inl ⟨fetch, advanced⟩)
    · exact .inl (congrArg SupUnit.challenge (exec_keepsSupUnit s reset own t h))

theorem exec_submitAnswer_answerCorrect {p : Port} {answer : BitVec 32} {s : State}
    (frame : s.frameAtOwner p 0x02 (answerParams answer)) (awaiting : (s.supUnit p).state = .awaitAnswer)
    (inside : judgeWindow (s.supUnit p).settings.answerOpen (s.supUnit p).settings.answerClose
      ((s.supUnit p).windowElapsed s.localTime) = .inside) :
    ∃ t : State, exec (.submitAnswer p) s = .next t
      ∧ (t.supUnit p).answerCorrect =
          (if answer = expectedAnswer (s.supUnit p).challenge (s.supUnit p).settings.key then true
            else (s.supUnit p).answerCorrect) := by
  refine ⟨_, rfl, ?_⟩
  rw [serve_atOwner _ frame, State.setTransit_supUnit]
  simp [ruleSubmitAnswer, parseAnswer_answerParams, awaiting, SupUnit.answer_answerCorrect answer awaiting inside]

/-- Settles O20: the register by its bits, the mark by the answer step, and the moves of a register by who changes its unit. -/
theorem challengeRegisterAdvances : Obligations.ChallengeRegisterAdvances :=
  ⟨fun v _ => challengeAdvance_getLsbD_succ v, challengeAdvance_getLsbD_zero, fun _ _ same => challengeAdvance_injective same,
    fun _ => challengeAdvance_ne_zero,
    fun challenge key i h => ⟨expectedAnswer_getLsbD_high challenge key i, expectedAnswer_getLsbD_low challenge key h⟩,
    by decide, fun _ _ _ => exec_submitAnswer_answerCorrect, by decide, by decide, by decide,
    fun _ _ _ p => exec_challenge p⟩

end Sys2Proof.Machine
end

section
/-! Collect Attention (R171): its data octet by octet, its meaning with a frame at the owner, and what a removed record leaves
behind in a queue without repeats. -/

namespace Sys2Proof.Machine

/-! ### Fields of two and of four octets -/

/-- An octet holds a number modulo 256. -/
@[simp] theorem octet_mod (n : Nat) : octet (n % 256) = octet n :=
  BitVec.eq_of_toNat_eq (by simp [octet])

theorem be_two (v : Nat) : be 2 v = [octet (v / 256), octet (v % 256)] := by
  rw [octet_mod]
  simp [be, octet]

theorem be_four (v : Nat) :
    be 4 v = [octet (v / 16777216), octet (v / 65536 % 256), octet (v / 256 % 256), octet (v % 256)] := by
  simp only [octet_mod]
  simp [be, octet]

/-! ### The data of Collect Attention -/

theorem recordOctets_eq (r : AttnRecord) :
    recordOctets r =
      [octet (sourceCode r.source), octet (kindCode r.kind), octet r.count,
       octet (r.latest.toNat / 256), octet (r.latest.toNat % 256),
       octet (r.firstTime.toNat / 16777216), octet (r.firstTime.toNat / 65536 % 256),
       octet (r.firstTime.toNat / 256 % 256), octet (r.firstTime.toNat % 256)] := by
  rw [recordOctets, be_two, be_four]
  rfl

@[simp] theorem recordOctets_length (r : AttnRecord) : (recordOctets r).length = 9 := by
  rw [recordOctets_eq]
  rfl

theorem flatMap_recordOctets_length (rs : List AttnRecord) : (rs.flatMap recordOctets).length = 9 * rs.length := by
  simp [List.length_flatMap, Nat.mul_comm]

theorem collectData_length (u : AttnUnit) : (collectData u).length = 3 + 9 * min 8 u.queue.length := by
  rw [collectData, List.length_append, flatMap_recordOctets_length, List.length_take]
  rfl

/-- The result of an accepted Collect Attention: code, length, the three octets about the queue, and the records (R56). -/
theorem okData_collectData (u : AttnUnit) :
    okData (collectData u) =
      [0x00, octet (3 + 9 * min 8 u.queue.length), octet (min 8 u.queue.length),
        octet (u.queue.length - min 8 u.queue.length), flagOctet u.overflow]
      ++ (u.queue.take 8).flatMap recordOctets := by
  have left : u.queue.length - 8 = u.queue.length - min 8 u.queue.length := by omega
  rw [okData, resultFrame, collectData_length, collectData, List.length_take, List.length_drop, left]
  rfl

/-! ### Its meaning -/

theorem parseNone_of_ne_nil {ps : List Octet} (h : ps ≠ []) : parseNone ps = .error .badLength := by
  cases ps with
  | nil => exact absurd rfl h
  | cons o os => rfl

theorem ruleCollectAttention_of_ne_nil (p : Port) {ps : List Octet} (h : ps ≠ []) (s : State) :
    ruleCollectAttention p ps s = (s, refuse .badLength) := by
  rw [ruleCollectAttention, parseNone_of_ne_nil h]

theorem ruleCollectAttention_nil (p : Port) (s : State) :
    ruleCollectAttention p [] s =
      (s.setAttn p ⟨(s.attnUnit p).queue.drop 8, false⟩, okData (collectData (s.attnUnit p))) := rfl

theorem exec_collectAttention_atOwner {p : Port} {params : List Octet} {s : State} (frame : s.frameAtOwner p 0x08 params) :
    exec (.collectAttention p) s =
      .next ((ruleCollectAttention p params s).1.answers p (ruleCollectAttention p params s).2) :=
  congrArg Host.Outcome.next (serve_atOwner (ruleCollectAttention p) frame)

/-! ### Later events of a removed record -/

/-- In a sound queue no record left behind is of the source and kind of a removed one (R169). -/
theorem AttentionSound.removed_ne_left {s : State} (sound : AttentionSound s) {p : Port} {r left : AttnRecord} {n : Nat}
    (removed : r ∈ (s.attnUnit p).queue.take n) (stays : left ∈ (s.attnUnit p).queue.drop n) :
    ¬(left.source = r.source ∧ left.kind = r.kind) := by
  obtain ⟨-, distinct, -⟩ := sound p
  rw [← List.take_append_drop n (s.attnUnit p).queue, List.pairwise_append] at distinct
  obtain ⟨-, -, across⟩ := distinct
  exact fun ⟨source, kind⟩ => across r removed left stays ⟨source.symm, kind.symm⟩

/-- The next event of a removed record's source and kind meets no record to merge into and a queue with room (R170). -/
theorem AttentionSound.take_after_collect {s : State} (sound : AttentionSound s) {p : Port} {r : AttnRecord}
    (removed : r ∈ (s.attnUnit p).queue.take 8) (value : BitVec 16) (now : Time) :
    (AttnUnit.take ⟨(s.attnUnit p).queue.drop 8, false⟩ r.source r.kind value now).queue =
      (s.attnUnit p).queue.drop 8 ++ [⟨r.source, r.kind, 1, value, now⟩] := by
  obtain ⟨atMost, -, -⟩ := sound p
  have room : ¬48 ≤ ((s.attnUnit p).queue.drop 8).length := by
    rw [List.length_drop]
    omega
  rw [AttnUnit.take_new _ _ _ _ _ fun left stays => sound.removed_ne_left removed stays, if_neg room]

/-- Settles O5: the meaning at the owner with the data octet by octet, and no repeat of a removed record in what is left; the code
tables are computed. -/
theorem collectAttentionReturns : Obligations.CollectAttentionReturns := by
  intro p params s frame
  have meaning := exec_collectAttention_atOwner frame
  refine ⟨fun withParams => ?_, ?_, fun _ => rfl, by decide, by decide⟩
  · rw [meaning, ruleCollectAttention_of_ne_nil p withParams]
    rfl
  · rintro rfl
    refine ⟨?_, fun sound _ removed => sound.take_after_collect removed⟩
    simp only [← recordOctets_eq]
    rw [meaning, ruleCollectAttention_nil, okData_collectData]

end Sys2Proof.Machine
end

section
/-! What a command can do to a state, said once: the moves of a circuit, of a path unit, of the exchange of a port and of the whole
part, each named after what it writes. Every command but device reset is a chain of such moves (`exec_moves`), so that an invariant is
kept by every command once it is kept by every move. -/

namespace Sys2Proof.Machine

/-! ### The moves of a circuit -/

/-- A line as one of its own steps, its receive clock or its transmit side leaves it (sections 2.1 to 2.5). -/
inductive LineMove (v : Circuit) : Line → Prop
  | clock : LineMove v { v.line with crystal := true }
  | transmit (odd : Bool) (kind : TxKind) (octets : List Octet) (rate : Int) (phase : Nat) :
      LineMove v { v.line with txOdd := odd, txKind := kind, txOctets := octets, txRate := rate, txPhase := phase }
  | losSet : LineMove v { v.line with los := true, markPeriods := 0, spaceRun := 0 }
  | losClear : LineMove v { v.line with los := false, markPeriods := 0, spaceRun := 0 }
  | spanEnd : LineMove v v.line.spanEnd
  | search (due : v.searchDue = true) (word : BitVec 7) : LineMove v (v.line.searchExamine word)
  | firstTest (due : v.verifyDue = true) (first : v.line.firstTestPassed = false) :
      LineMove v { v.line with firstTestPassed := true }
  | verifyFailed (due : v.verifyDue = true) : LineMove v v.line.verifyFailed
  | aligned (due : v.verifyDue = true) : LineMove v v.line.alignedEntry
  | compare (word : BitVec 7) : LineMove v (v.line.alignedCompare word)
  | lost (due : v.lossDue = true) : LineMove v v.line.alignmentLost
  | boundary : LineMove v v.line.boundary
  | bit (crystal mark : Bool) : LineMove v (v.takeBit crystal mark).line

/-- I and C as they were, or within the limit (R107, R108, R113, R116). -/
def Timing.KeptWithin (lim : Nat) (old new : Timing) : Prop :=
  (new.i = old.i ∨ new.i.natAbs ≤ lim) ∧ (new.c = old.c ∨ new.c.natAbs ≤ lim)

/-- The ring, the cursor and the requests as an arrival, a head take or a flush leaves them (chapter 5). -/
inductive PlayoutMove (v : Circuit) : Circuit → Prop
  | storeFirst (π : Path) (now : Time) (a : Arrival) (unset : v.cursor.head = none) :
      PlayoutMove v (({ v with cursor :=
        { v.cursor with head := some a.seq, frameIndex := 0, headTaken := false } } : Circuit).store π now a)
  | store (π : Path) (now : Time) (a : Arrival) (head : Seq) (set : v.cursor.head = some head)
      (inside : seqOffset head a.seq < v.layoutD.capacity) (empty : (v.slotAt a.seq).kind = .empty) :
      PlayoutMove v (v.store π now a)
  | duplicate (π : Path) (now : Time) (n : Seq) : PlayoutMove v (v.duplicate π now n)
  | early (π : Path) (n : Seq) : PlayoutMove v (v.earlyArrival π n)
  | noteR (r : Bool) : PlayoutMove v { v with cursor := { v.cursor with lastR := some r } }
  | complete (set : v.cursor.head.isSome = true) :
      PlayoutMove v { v with requests := { v.requests with acquisitionComplete := true } }
  | take (head : Seq) (closes : PerPort Bool) : PlayoutMove v (v.takeHead head closes)
  | notePlayed (frame : Option (List Octet)) : PlayoutMove v { v with cursor := { v.cursor with lastPlayed := frame } }
  | free (head : Seq) (set : v.cursor.head = some head) : PlayoutMove v (v.freeIfLast head)
  | restart (now : Time) (acquiring : v.state = .acquiring) (open_ : v.requests.acquisitionComplete = false) :
      PlayoutMove v { v.flush with cursor := { v.flush.cursor with acqTimer := some now } }
  | requests (r : Requests) (kept : r.acquisitionComplete = true → v.requests.acquisitionComplete = true) :
      PlayoutMove v { v with requests := r }

/-- The probe state as a probe instant, a departure, an echo, a judgement or a read leaves it (chapter 8). -/
inductive ProbingMove (v : Circuit) : Probing → Prop
  | timer (t : Option Time) : ProbingMove v { v.probing with timer := t }
  | probe (π : Path) :
      ProbingMove v { v.probing with number := v.probing.number + 1, postponed := v.probing.postponed.set π 0 }
  | postpone (π : Path) (below : v.probing.postponed.get π < 8) :
      ProbingMove v { v.probing with postponed := v.probing.postponed.set π (v.probing.postponed.get π + 1) }
  | departed (π : Path) (number : Seq) (t1 : Time) (open_ : v.isOpen = true) :
      ProbingMove v { v.probing with
        outstanding := v.probing.outstanding.set π (departedList (v.probing.outstanding.get π) number t1) }
  | matched (π : Path) (number : Seq) :
      ProbingMove v { v.probing with
        outstanding := v.probing.outstanding.set π (newerThan (v.probing.outstanding.get π) number) }
  | sample (π : Path) (trip : Nat) (plausible : trip ≤ 10000000) :
      ProbingMove v { v.probing with record := v.probing.record.set π ((v.probing.record.get π).take trip) }
  | delayAlarm (π : Path) (alarm : Bool) :
      ProbingMove v { v.probing with
        record := v.probing.record.set π { v.probing.record.get π with alarm := alarm } }
  | asymmetryAlarm (alarm : Bool) : ProbingMove v { v.probing with asymmetryAlarm := alarm }
  | clearMinimum (p : Port) :
      ProbingMove v { v.probing with
        record := ⟨v.probing.record.x.clearMinimum p, v.probing.record.y.clearMinimum p⟩ }

/-- A circuit as one part of a command leaves it: every way but the entry to CLOSED and its opening, which also move blocks
(`Move`). -/
inductive CircuitMove (i : Instr) (v : Circuit) : Circuit → Prop
  | counters (cp : PerPath CpCounters) (k : CircuitCounters) : CircuitMove i v { v with cpCounters := cp, counters := k }
  | packetizer (k : Packetizer) : CircuitMove i v { v with packetizer := k }
  | drain (remaining frames : Nat) : CircuitMove i v { v with drainRemaining := remaining, drainFrames := frames }
  | activePath (π : Path) : CircuitMove i v { v with health := { v.health with active := π } }
  | healthStep (π : Path) (good : Bool) (degraded : PerPath Bool) :
      CircuitMove i v { v with health := { v.health with
        count := v.health.count.set π (stepCount v.pathSet good (v.health.count.get π)), degraded := degraded } }
  | line {l : Line} (move : LineMove v l) : CircuitMove i v { v with line := l }
  | timing {t : Timing} (kept : v.timing.KeptWithin v.timingSet.lim t) : CircuitMove i v { v with timing := t }
  | playout {w : Circuit} (move : PlayoutMove v w) : CircuitMove i v w
  | probing {b : Probing} (move : ProbingMove v b) : CircuitMove i v { v with probing := b }
  | acquiring (now : Time) (running : v.state = .running) : CircuitMove i v (v.intoAcquiring now)
  | running (acquiring : v.state = .acquiring) (complete : v.requests.acquisitionComplete = true) :
      CircuitMove i v v.intoRunning
  | hold (allowed : v.holdAllowed = true) : CircuitMove i v v.intoHold
  | resumed (now : Time) (held : v.state = .hold) : CircuitMove i v (v.resumed now)
  | closing (limit : Nat) (open_ : v.isOpen = true) (undrained : v.drained = false) : CircuitMove i v (v.intoClosing limit)
  | setPlayout {p : Port} (own : i = .setPlayout p) (set : PlayoutSettings) : CircuitMove i v { v with playoutSet := set }
  | setTiming {p : Port} (own : i = .setTiming p) (set : TimingSettings) (ref : RefMonitor) (range : set.inRange = true) :
      CircuitMove i v { v with timingSet := set, timing := setTimingValue v ref set }
  | setPaths {p : Port} (own : i = .setPaths p) (set : PathSettings) (active : Path) (range : set.inRange = true) :
      CircuitMove i v { v with pathSet := set, health := { v.health with active := active } }
  | setProbing {p : Port} (own : i = .setProbing p) (set : ProbeSettings) (timer : Option Time) :
      CircuitMove i v { v with probeSet := set, probing := { v.probing with timer := timer } }

/-! ### The moves of the other units -/

/-- A path unit as a link event, a hand-off, a departure, a received frame or Configure Path leaves it (chapter 4). -/
inductive PathMove (i : Instr) (u : PathUnit) : PathUnit → Prop
  | pin (up : Bool) : PathMove i u { u with linkPin := up }
  | link (up : Bool) : PathMove i u (u.linkChange up)
  | counters (frameErrors unknownTag format linkDownDrops : Counter) :
      PathMove i u { u with
        frameErrors := frameErrors, unknownTag := unknownTag, format := format, linkDownDrops := linkDownDrops }
  | append (e : QueueEntry) (up : u.linkUp = true) (room : u.queue.length < 64) :
      PathMove i u { u with queue := u.queue ++ [e] }
  | depart (frame : List Octet) : PathMove i u (u.departed frame)
  | flush : PathMove i u { u with queue := [] }
  | configure {p : Port} (own : i = .configurePath p) (source : MacAddr) (typeCode : BitVec 16) :
      PathMove i u { u with source := source, typeCode := typeCode }

/-- What `ExchangeSound` says of one port and of what is with the owners (R147, R150 to R152). -/
def ExchangeAt (u : PortUnit) (x : Option Transit) : Prop :=
  (u.result.isSome = true ↔ u.phase = .result)
    ∧ (u.phase = .executing ↔ (u.inFlight.isSome = true ∨ u.waiting.isSome = true))
    ∧ (u.waiting.isSome = true → u.orphan = true)
    ∧ (u.inFlight.isSome = true → u.orphan = false)
    ∧ (x.isSome = true ↔ (u.inFlight.isSome = true ∨ u.orphan = true))

theorem exchangeSound_iff (s : State) : ExchangeSound s ↔ ∀ p, ExchangeAt (s.port p) (s.transit.get p) := Iff.rfl

/-- What `SupervisionSound` says of one unit (section 10.1). -/
def SupUnit.Sound (u : SupUnit) : Prop :=
  u.standing ≤ 15 ∧ u.resetCount ≤ 15 ∧ u.settings.inRange = true ∧ u.challenge ≠ 0 ∧ u.flags &&& 0xF800#16 = 0
    ∧ (u.windowTimer = none ↔ u.state = .idle) ∧ (u.state = .awaitAnswer → u.answerCorrect = false)

theorem supervisionSound_iff (s : State) : SupervisionSound s ↔ ∀ p, (s.supUnit p).Sound := Iff.rfl

/-- The values of the monitor that Configure Reference alone stores (R127). -/
def RefMonitor.SameStored (r r' : RefMonitor) : Prop :=
  r'.alignmentWord = r.alignmentWord ∧ r'.toleranceStored = r.toleranceStored ∧ r'.qStored = r.qStored

/-- The part as one part of a command leaves it: an opened circuit takes its blocks from the pool, one that closes returns them, and
every other move is of one unit. -/
inductive Move (i : Instr) (s : State) : State → Prop
  | circuit (c : CircuitId) {w : Circuit} (move : CircuitMove i (s.circuit c) w) : Move i s (s.setCircuit c w)
  | close (c : CircuitId) (open_ : (s.circuit c).isOpen = true) :
      Move i s ((s.setCircuit c (s.circuit c).intoClosed).setFreeBlocks (s.freeBlocks + (s.circuit c).blocksHeld))
  | open_ (p : Port) (own : i = .openCircuit p) (c : CircuitId) (l : Layout) (now : Time) (range : l.wellFormed = true)
      (closed : (s.circuit c).isOpen = false) (free : s.tagInUse c l.remoteTag = false)
      (space : l.neededBlocks ≤ s.freeBlocks) :
      Move i s ((s.setCircuit c ((s.circuit c).opened l now)).setFreeBlocks (s.freeBlocks - l.neededBlocks))
  | postTo (p : Port) (src : Source) (kind : AttnKind) (value : BitVec 16) : Move i s (s.postTo p src kind value)
  | collect (p : Port) : Move i s (s.setAttn p ⟨(s.attnUnit p).queue.drop 8, false⟩)
  | path (π : Path) {u : PathUnit} (move : PathMove i (s.pathUnit π) u) : Move i s (s.setPath π u)
  | ref {r : RefMonitor} (kept : (∃ p : Port, i = .configureReference p) ∨ s.ref.SameStored r) : Move i s (s.setRef r)
  | exchange (p : Port) {u : PortUnit} {x : Option Transit} (gone : x = none → s.transit.get p = none ∨ i = .resultArrival p)
      (keeps : ExchangeAt (s.port p) (s.transit.get p) → ExchangeAt u x) : Move i s ((s.setPort p u).setTransit p x)
  | endStartUp : Move i s s.endStartUp
  | release (own : i = .resetNRelease) : Move i s s.releaseReset
  | supervision (p : Port) {u : SupUnit} {h : Option Port} (own : i ∈ supervisionOf p)
      (keeps : (s.supUnit p).Sound → u.Sound)
      (authority : AuthoritySound s → AuthoritySound ((s.setSup p u).setHolder h)) :
      Move i s ((s.setSup p u).setHolder h)
  | authority {h : Option Port}
      (own : ∃ p : Port, i = .takeAuthority p ∨ i = .yieldAuthority p)
      (eligible : ∀ p : Port, h = some p → (s.supUnit p).eligible = true) : Move i s (s.setHolder h)
  | free : Move i s s.bumpFree

/-- A chain of moves. -/
def Moves (i : Instr) : State → State → Prop := Relation.ReflTransGen (Move i)

end Sys2Proof.Machine
end

section
/-! Every operation on circuits and paths as a chain of moves, in the order of the definitions. -/

namespace Sys2Proof.Machine

variable {i : Instr} {s t : State}

/-! ### Chains -/

@[refl] theorem Moves.refl (i : Instr) (s : State) : Moves i s s := Relation.ReflTransGen.refl

theorem Moves.trans {u : State} (first : Moves i s t) (next : Moves i t u) : Moves i s u := Relation.ReflTransGen.trans first next

theorem Move.moves (h : Move i s t) : Moves i s t := Relation.ReflTransGen.single h

theorem CircuitMove.moves {c : CircuitId} {w : Circuit} (h : CircuitMove i (s.circuit c) w) : Moves i s (s.setCircuit c w) :=
  (Move.circuit c h).moves

theorem PathMove.moves {π : Path} {u : PathUnit} (h : PathMove i (s.pathUnit π) u) : Moves i s (s.setPath π u) :=
  (Move.path π h).moves

/-- Moves of one circuit in turn, written back once. -/
theorem moves_setCircuit {c : CircuitId} {w : Circuit} (h : Relation.ReflTransGen (CircuitMove i) (s.circuit c) w) :
    Moves i s (s.setCircuit c w) := by
  induction h with
  | refl => rw [State.setCircuit_self]
  | tail _ last ih =>
    have again := CircuitMove.moves (s := s.setCircuit c _) (c := c) (by rw [State.circuit_setCircuit_self]; exact last)
    rw [State.setCircuit_setCircuit] at again
    exact ih.trans again

theorem moves_foldl {α : Type} {f : State → α → State} (step : ∀ t x, Moves i t (f t x)) (xs : List α) (s : State) :
    Moves i s (xs.foldl f s) := by
  induction xs generalizing s with
  | nil => rfl
  | cons x xs ih => exact (step s x).trans (ih (f s x))

theorem moves_ite_self {b : Prop} [Decidable b] (h : b → Moves i s t) : Moves i s (if b then t else s) := by
  split
  · next due => exact h due
  · rfl

theorem moves_post (s : State) (src : Source) (kind : AttnKind) (value : BitVec 16) : Moves i s (s.post src kind value) :=
  (Move.postTo .cp0 src kind value).moves.trans (Move.postTo .cp1 src kind value).moves

/-! ### Paths (chapter 4) -/

theorem txDrop_moves (s : State) (π : Path) (c : CircuitId) : Moves i s (s.txDrop π c) :=
  CircuitMove.moves (.counters _ _)

theorem handPacket_moves (s : State) (π : Path) (c : CircuitId) (kind : PacketKind) (number : Seq) (packet : List Octet) :
    Moves i s (s.handPacket π c kind number packet) := by
  obtain h | ⟨-, h⟩ | ⟨up, room, e, -, -, -, h⟩ := s.handPacket_cases π c kind number packet <;> rw [h]
  · exact txDrop_moves s π c
  · exact PathMove.moves (.counters _ _ _ _)
  · exact PathMove.moves (.append e up room)

theorem judgeTx_moves (s : State) (c : CircuitId) : Moves i s (s.judgeTx c) :=
  moves_ite_self fun _ => (CircuitMove.moves (.activePath _)).trans (moves_post ..)

theorem healthStep_moves (s : State) (c : CircuitId) (π : Path) (good : Bool) : Moves i s (s.healthStep c π good) := by
  simp only [State.healthStep]
  split
  · exact CircuitMove.moves (.healthStep π good _)
  · exact ((CircuitMove.moves (.healthStep π good _)).trans (moves_post ..)).trans (judgeTx_moves ..)

theorem linkEvent_moves (s : State) (π : Path) (up : Bool) : Moves i s (s.linkEvent π up) := by
  simp only [State.linkEvent]
  split
  · exact PathMove.moves (.pin up)
  · exact ((PathMove.moves (.link up)).trans (moves_post ..)).trans (moves_foldl judgeTx_moves ..)

theorem applySetPaths_moves {p : Port} (own : i = .setPaths p) (s : State) (c : CircuitId) {set : PathSettings}
    (range : set.inRange = true) : Moves i s (s.applySetPaths c set) := by
  simp only [State.applySetPaths]
  split
  · exact (CircuitMove.moves (.setPaths own set _ range)).trans (judgeTx_moves ..)
  · exact CircuitMove.moves (.setPaths own set (s.circuit c).health.active range)

theorem flushAsTxDrops_moves (s : State) (π : Path) : Moves i s (s.flushAsTxDrops π) :=
  (PathMove.moves .flush).trans (moves_foldl (fun t (e : QueueEntry) => txDrop_moves t π e.circuit) ..)

theorem applyConfigurePath_moves {p : Port} (own : i = .configurePath p) (s : State) (π : Path) (source : MacAddr)
    (typeCode : BitVec 16) : Moves i s (s.applyConfigurePath π source typeCode) :=
  (moves_ite_self fun _ => flushAsTxDrops_moves s π).trans (PathMove.moves (.configure own source typeCode))

/-! ### The packetizer (section 3.1) -/

theorem completePacket_moves (s : State) (c : CircuitId) : Moves i s (s.completePacket c) := by
  simp only [State.completePacket]
  split
  · exact (CircuitMove.moves (.packetizer _)).trans ((handPacket_moves ..).trans (handPacket_moves ..))
  · exact (CircuitMove.moves (.packetizer _)).trans (handPacket_moves ..)

theorem handFrame_moves (s : State) (c : CircuitId) (octets : List Octet) (mark : Bool) :
    Moves i s (s.handFrame c octets mark) := by
  simp only [State.handFrame]
  split
  · split
    · exact (CircuitMove.moves (.packetizer _)).trans (completePacket_moves ..)
    · exact CircuitMove.moves (.packetizer _)
  · exact CircuitMove.moves (.packetizer _)

/-- Only the packetizer and the counters of a circuit, and the paths, may differ. -/
def HandedFrom (c : CircuitId) (s t : State) : Prop :=
  ∃ (z : Packetizer) (k : PerPath CpCounters) (paths : PerPath PathUnit),
    t = { s.setCircuit c { s.circuit c with packetizer := z, cpCounters := k } with paths := paths }

theorem HandedFrom.trans {c : CircuitId} {u : State} (first : HandedFrom c s t) (next : HandedFrom c t u) :
    HandedFrom c s u := by
  obtain ⟨z, k, paths, rfl⟩ := first
  obtain ⟨z', k', paths', rfl⟩ := next
  refine ⟨z', k', paths', ?_⟩
  simp [State.circuit, State.setCircuit, Vector.set_set]

theorem setPacketizer_handedFrom (s : State) (c : CircuitId) (z : Packetizer) :
    HandedFrom c s (s.setCircuit c { s.circuit c with packetizer := z }) :=
  ⟨z, (s.circuit c).cpCounters, s.paths, rfl⟩

theorem handPacket_handedFrom (s : State) (π : Path) (c : CircuitId) (kind : PacketKind) (number : Seq)
    (packet : List Octet) : HandedFrom c s (s.handPacket π c kind number packet) := by
  obtain ⟨k, u, h⟩ := s.handPacket_eq π c kind number packet
  exact ⟨_, k, _, h⟩

theorem completePacket_handedFrom (s : State) (c : CircuitId) : HandedFrom c s (s.completePacket c) := by
  simp only [State.completePacket]
  split
  · exact ((setPacketizer_handedFrom ..).trans (handPacket_handedFrom ..)).trans (handPacket_handedFrom ..)
  · exact (setPacketizer_handedFrom ..).trans (handPacket_handedFrom ..)

/-- Handing a frame to the packetizer touches the packetizer and the counters of its circuit and the paths alone. -/
theorem handFrame_handedFrom (s : State) (c : CircuitId) (octets : List Octet) (mark : Bool) :
    HandedFrom c s (s.handFrame c octets mark) := by
  simp only [State.handFrame]
  split
  · split
    · exact (setPacketizer_handedFrom ..).trans (completePacket_handedFrom ..)
    · exact setPacketizer_handedFrom ..
  · exact setPacketizer_handedFrom ..

/-! ### Lines (chapter 2) -/

theorem postAlarmChange_moves (s : State) (c : CircuitId) (before : Nat) : Moves i s (s.postAlarmChange c before) :=
  moves_ite_self fun _ => moves_post ..

theorem LineMove.moves {c : CircuitId} {l : Line} (h : LineMove (s.circuit c) l) :
    Moves i s (s.setCircuit c { s.circuit c with line := l }) :=
  CircuitMove.moves (.line h)

/-- The test of VERIFY stays due while its frame is handed over. -/
theorem handFrame_verifyDue (s : State) (c : CircuitId) (octets : List Octet) (mark : Bool) :
    ((s.handFrame c octets mark).circuit c).verifyDue = (s.circuit c).verifyDue := by
  obtain ⟨z, k, paths, h⟩ := handFrame_handedFrom s c octets mark
  have at_c : (s.handFrame c octets mark).circuit c = { s.circuit c with packetizer := z, cpCounters := k } := by
    rw [h]
    exact State.circuit_setCircuit_self ..
  rw [at_c]
  rfl

theorem framerVerify_moves (s : State) (c : CircuitId) (due : (s.circuit c).verifyDue = true) :
    Moves i s (s.framerVerify c) := by
  simp only [State.framerVerify]
  split
  · split
    · have still := (handFrame_verifyDue s c (s.circuit c).substituteFrame (s.circuit c).receiveFault).trans due
      exact ((handFrame_moves ..).trans (LineMove.moves (.aligned still))).trans (postAlarmChange_moves ..)
    · exact LineMove.moves (.verifyFailed due)
  · next first =>
    split
    · exact LineMove.moves (.firstTest due (by simpa using first))
    · exact LineMove.moves (.verifyFailed due)

theorem receiveBoundary_moves (s : State) (c : CircuitId) : Moves i s (s.receiveBoundary c) :=
  (moves_ite_self fun _ => handFrame_moves ..).trans (LineMove.moves .boundary)

/-- What makes each step of a line due (section 2.4, assumption 6). -/
def Circuit.stepDue (v : Circuit) : LineStep → Bool
  | .losSet => v.losSetDue
  | .aisSpanEnd => v.aisSpanDue
  | .lossOfAlignment => v.lossDue
  | .search => v.searchDue
  | .verify => v.verifyDue
  | .compare => v.compareDue
  | .boundary => v.boundaryDue
  | .losClear => v.losClearDue

theorem stepDue_of_lineDue {v : Circuit} {k : LineStep} (h : v.lineDue = some k) : v.stepDue k = true := by
  unfold Circuit.lineDue at h
  split_ifs at h <;> cases h <;> assumption

theorem lineStep_moves (s : State) (c : CircuitId) (k : LineStep) (due : (s.circuit c).stepDue k = true) :
    Moves i s (s.lineStep c k) := by
  cases k with
  | losSet => exact (LineMove.moves .losSet).trans (postAlarmChange_moves ..)
  | losClear => exact (LineMove.moves .losClear).trans (postAlarmChange_moves ..)
  | aisSpanEnd => exact (LineMove.moves .spanEnd).trans (postAlarmChange_moves ..)
  | lossOfAlignment => exact (LineMove.moves (.lost due)).trans (postAlarmChange_moves ..)
  | search => exact LineMove.moves (.search due _)
  | verify => exact framerVerify_moves s c due
  | compare => exact LineMove.moves (.compare _)
  | boundary => exact receiveBoundary_moves s c

theorem settleLine_moves (s : State) (c : CircuitId) : Moves i s (s.settleLine c) := by
  suffices main : ∀ fuel (t : State), Moves i t (settleLineFor fuel t c) from main 2048 s
  intro fuel
  induction fuel with
  | zero => exact fun t => .refl i t
  | succ fuel ih =>
    intro t
    rw [settleLineFor]
    split
    · rfl
    · next k due => exact (lineStep_moves t c k (stepDue_of_lineDue due)).trans (ih _)

theorem takeBit_moves (s : State) (c : CircuitId) (crystal mark : Bool) :
    Moves i s (s.updCircuit c fun v => v.takeBit crystal mark) :=
  LineMove.moves (.bit crystal mark)

theorem crystalBit_moves (s : State) (c : CircuitId) : Moves i s (s.crystalBit c) :=
  (settleLine_moves s c).trans (takeBit_moves ..)

theorem settleClockLoss_moves (s : State) (c : CircuitId) : Moves i s (s.settleClockLoss c) :=
  moves_ite_self fun _ => LineMove.moves .clock

theorem crystalBitsFor_moves (fuel : Nat) (s : State) (c : CircuitId) : Moves i s (crystalBitsFor fuel s c) := by
  induction fuel generalizing s with
  | zero => rfl
  | succ fuel ih => exact moves_ite_self fun _ => (crystalBit_moves s c).trans (ih _)

theorem trxcEdge_moves (s : State) (c : CircuitId) (mark : Bool) : Moves i s (s.trxcEdge c mark) :=
  (((settleClockLoss_moves s c).trans (crystalBitsFor_moves ..)).trans (settleLine_moves ..)).trans (takeBit_moves ..)

/-! ### Timing (chapter 6) -/

theorem natAbs_clampTo_le (lim : Nat) (v : Int) : (clampTo lim v).natAbs ≤ lim := by
  unfold clampTo
  split_ifs <;> omega

theorem saturate_moves (s : State) (c : CircuitId) (integrator output : Bool) : Moves i s (s.saturate c integrator output) := by
  have flags : Moves i s (s.updCircuit c fun v => { v with timing := v.timing.setSat integrator output }) :=
    CircuitMove.moves (.timing ⟨.inl rfl, .inl rfl⟩)
  simp only [State.saturate]
  split
  · exact flags.trans (moves_post ..)
  · exact flags

theorem loopUpdate_moves (s : State) (c : CircuitId) : Moves i s (s.loopUpdate c) :=
  (CircuitMove.moves (.timing ⟨.inr (natAbs_clampTo_le ..), .inr (natAbs_clampTo_le ..)⟩)).trans (saturate_moves ..)

theorem depthSample_moves (s : State) (c : CircuitId) (d : Nat) : Moves i s (s.depthSample c d) := by
  have counted : Moves i s (s.setCircuit c { s.circuit c with timing :=
      { (s.circuit c).timing with sum := (s.circuit c).timing.sum + d, n := (s.circuit c).timing.n + 1 } }) :=
    CircuitMove.moves (.timing ⟨.inl rfl, .inl rfl⟩)
  simp only [State.depthSample]
  split
  · split
    · exact counted.trans (loopUpdate_moves ..)
    · exact counted
  · rfl

theorem takeOffset_moves (s : State) (c : CircuitId) (offset : Int) : Moves i s (s.takeOffset c offset) :=
  Moves.trans (t := s.setCircuit c { s.circuit c with timing :=
      { (s.circuit c).timing with c := clampTo (s.circuit c).timingSet.lim offset } })
    (CircuitMove.moves (.timing ⟨.inl rfl, .inr (natAbs_clampTo_le ..)⟩)) (saturate_moves ..)

theorem handOffset_moves (s : State) (offset : Int) : Moves i s (s.handOffset offset) :=
  moves_foldl (fun t c => moves_ite_self fun _ => takeOffset_moves t c offset) ..

theorem applySetTiming_moves {p : Port} (own : i = .setTiming p) (s : State) (c : CircuitId) {set : TimingSettings}
    (range : set.inRange = true) : Moves i s (s.applySetTiming c set) := by
  have stored := CircuitMove.moves (s := s) (c := c) (.setTiming own set s.ref range)
  simp only [State.applySetTiming]
  split
  · exact stored.trans (saturate_moves ..)
  · exact stored

/-! ### Arrivals (section 5.3) -/

theorem PlayoutMove.moves {c : CircuitId} {w : Circuit} (h : PlayoutMove (s.circuit c) w) : Moves i s (s.setCircuit c w) :=
  CircuitMove.moves (.playout h)

theorem judgeR_moves (s : State) (c : CircuitId) (r : Bool) : Moves i s (s.judgeR c r) := by
  have noted := PlayoutMove.moves (i := i) (s := s) (c := c) (.noteR r)
  simp only [State.judgeR]
  split
  · exact noted.trans (moves_post ..)
  · exact noted

theorem afterStore_moves (s : State) (c : CircuitId) (set : (s.circuit c).cursor.head.isSome = true) :
    Moves i s (s.afterStore c) := by
  simp only [State.afterStore]
  split
  · exact depthSample_moves ..
  · exact moves_ite_self fun _ => PlayoutMove.moves (.complete set)
  · rfl

/-- A store, and what follows it, once the stored circuit has a head. -/
theorem storePacket_moves (s : State) (c : CircuitId) (π : Path) (a : Arrival)
    (stored : Moves i t (s.updCircuit c fun v => v.store π s.localTime a))
    (set : (s.circuit c).cursor.head.isSome = true) : Moves i t (s.storePacket c π a) := by
  have judged : ((((s.updCircuit c fun v => v.store π s.localTime a).healthStep c π true).judgeR c a.r).circuit c).cursor.head =
      (s.circuit c).cursor.head := by
    obtain ⟨h, attn, health⟩ := (s.updCircuit c fun v => v.store π s.localTime a).healthStep_eq c π true
    obtain ⟨attn', r⟩ := ((s.updCircuit c fun v => v.store π s.localTime a).healthStep c π true).judgeR_eq c a.r
    rw [r, health]
    simp [State.circuit, State.setCircuit, State.updCircuit, Circuit.store]
  exact ((stored.trans (healthStep_moves ..)).trans (judgeR_moves ..)).trans
    (afterStore_moves _ c (by rw [judged]; exact set))

theorem duplicatePacket_moves (s : State) (c : CircuitId) (π : Path) (n : Seq) : Moves i s (s.duplicatePacket c π n) :=
  (PlayoutMove.moves (.duplicate π _ n)).trans (healthStep_moves ..)

theorem classifiedArrival_moves (s : State) (c : CircuitId) (π : Path) (a : Arrival) (head : Seq)
    (set : (s.circuit c).cursor.head = some head) : Moves i s (s.classifiedArrival c π a head) := by
  simp only [State.classifiedArrival]
  split
  · next inside =>
    obtain ⟨inside, -⟩ := classifyOffset_eq_inWindow_iff.mp inside
    split
    · next empty => exact storePacket_moves s c π a (PlayoutMove.moves (.store π _ a head set inside empty)) (by rw [set]; rfl)
    · exact duplicatePacket_moves ..
  · exact PlayoutMove.moves (.early π a.seq)
  · exact CircuitMove.moves (.counters _ _)

theorem dataArrival_moves (s : State) (c : CircuitId) (π : Path) (a : Arrival) : Moves i s (s.dataArrival c π a) := by
  simp only [State.dataArrival]
  split
  · rfl
  · split
    · exact CircuitMove.moves (.counters _ _)
    · split
      · next head set => exact classifiedArrival_moves s c π a head set
      · next unset =>
        refine moves_ite_self fun _ => storePacket_moves _ c π a ?_ (by simp)
        rw [State.updCircuit_eq, State.circuit_setCircuit_self, State.setCircuit_setCircuit]
        exact PlayoutMove.moves (.storeFirst π _ a unset)

/-! ### The transmit side (sections 2.5 and 5.5) -/

theorem takeIfDue_moves (s : State) (c : CircuitId) (head : Seq) : Moves i s (s.takeIfDue c head) := by
  simp only [State.takeIfDue]
  refine moves_ite_self fun _ => ?_
  have taken := PlayoutMove.moves (i := i) (s := s) (c := c) (.take head ⟨s.closeAtTable c .cp0, s.closeAtTable c .cp1⟩)
  split
  · exact taken.trans (moves_foldl (fun t π => healthStep_moves t c π false) ..)
  · exact taken

theorem beginFrame_move (v : Circuit) (kind : TxKind) (octets : List Octet) : CircuitMove i v (v.beginFrame kind octets) :=
  .line (.transmit _ _ _ _ _)

/-- The take of a head leaves what follows it, head and frame index among them, as it was. -/
theorem takeHead_cursor (v : Circuit) (head : Seq) (closes : PerPort Bool) :
    (v.takeHead head closes).cursor.head = v.cursor.head ∧ (v.takeHead head closes).cursor.frameIndex = v.cursor.frameIndex := by
  simp only [Circuit.takeHead]
  split <;> exact ⟨rfl, rfl⟩

theorem healthSteps_cursor (ps : List Path) (s : State) (c : CircuitId) :
    (((ps.foldl (fun t π => t.healthStep c π false) s).circuit c).cursor) = (s.circuit c).cursor := by
  induction ps generalizing s with
  | nil => rfl
  | cons π ps ih =>
    obtain ⟨h, attn, e⟩ := s.healthStep_eq c π false
    have one : ((s.healthStep c π false).circuit c).cursor = (s.circuit c).cursor := by
      rw [e]
      simp [State.circuit, State.setCircuit]
    exact (ih _).trans one

theorem takeIfDue_head (s : State) (c : CircuitId) (head : Seq) :
    ((s.takeIfDue c head).circuit c).cursor.head = (s.circuit c).cursor.head := by
  simp only [State.takeIfDue]
  split
  · split
    · rw [healthSteps_cursor, State.circuit_setCircuit_self]
      exact (takeHead_cursor ..).1
    · rw [State.circuit_setCircuit_self]
      exact (takeHead_cursor ..).1
  · rfl

theorem notePlayed_moves (v : Circuit) (head : Seq) :
    Relation.ReflTransGen (CircuitMove i) v (v.notePlayed head) ∧ (v.notePlayed head).cursor.head = v.cursor.head := by
  unfold Circuit.notePlayed
  split
  · exact ⟨.single (.playout (.notePlayed _)), rfl⟩
  · exact ⟨.refl, rfl⟩

theorem playFrame_moves (s : State) (c : CircuitId) (head : Seq) (set : (s.circuit c).cursor.head = some head) :
    Moves i s (s.playFrame c head) := by
  have finish : ∀ {v begun : Circuit}, CircuitMove i v begun → begun.cursor.head = some head →
      Relation.ReflTransGen (CircuitMove i) v ((begun.notePlayed head).freeIfLast head) := by
    intro v begun first at_head
    obtain ⟨played, same⟩ := notePlayed_moves (i := i) begun head
    exact ((Relation.ReflTransGen.single first).trans played).tail (.playout (.free head (same.trans at_head)))
  have still : ((s.takeIfDue c head).circuit c).cursor.head = some head := (takeIfDue_head s c head).trans set
  refine (takeIfDue_moves s c head).trans (moves_setCircuit ?_)
  simp only []
  split
  · exact finish (beginFrame_move ..) still
  · exact finish (beginFrame_move ..) still

theorem drainBoundary_moves (s : State) (c : CircuitId) : Moves i s (s.updCircuit c Circuit.drainBoundary) := by
  refine moves_setCircuit ?_
  unfold Circuit.drainBoundary
  split
  · split
    · exact .single (.drain _ _)
    · exact .single (.drain (s.circuit c).drainRemaining _)
  · exact .refl

theorem transmitBoundary_moves (s : State) (c : CircuitId) : Moves i s (s.transmitBoundary c) := by
  refine Moves.trans ?_ (drainBoundary_moves _ c)
  split
  · next head given =>
    refine playFrame_moves s c head ?_
    split at given
    · exact given
    · cases given
  · exact CircuitMove.moves (beginFrame_move ..)

theorem acqTimerExpiry_moves (s : State) (c : CircuitId) (due : s.acqTimerDue c = true) : Moves i s (s.acqTimerExpiry c) := by
  simp only [State.acqTimerDue] at due
  split at due
  · simp only [Bool.and_eq_true, decide_eq_true_eq, Bool.not_eq_true'] at due
    obtain ⟨⟨acquiring, open_⟩, -⟩ := due
    exact (PlayoutMove.moves (.restart s.localTime acquiring open_)).trans (moves_post ..)
  · cases due

/-! ### Probes (chapter 8) -/

theorem ProbingMove.moves {c : CircuitId} {b : Probing} (h : ProbingMove (s.circuit c) b) :
    Moves i s (s.setCircuit c { s.circuit c with probing := b }) :=
  CircuitMove.moves (.probing h)

theorem probeDue_moves (c : CircuitId) (s : State) (π : Path) : Moves i s (probeDue c s π) := by
  simp only [probeDue]
  split
  · rfl
  · split
    · next held => exact ProbingMove.moves (.postpone π held.2)
    · exact (ProbingMove.moves (.probe π)).trans (handPacket_moves ..)

theorem probeTimerExpiry_moves (s : State) (c : CircuitId) : Moves i s (s.probeTimerExpiry c) :=
  ((ProbingMove.moves (.timer (some s.localTime))).trans (moves_foldl (probeDue_moves c) ..)).trans Move.free.moves

/-- Counters and probe state written together. -/
theorem moves_counters_probing {c : CircuitId} {b : Probing} (k : PerPath CpCounters) (h : ProbingMove (s.circuit c) b) :
    Moves i s (s.setCircuit c { s.circuit c with cpCounters := k, probing := b }) :=
  moves_setCircuit ((Relation.ReflTransGen.single (.probing h)).tail (.counters k (s.circuit c).counters))

theorem probeDeparted_moves (s : State) (c : CircuitId) (π : Path) (number : Seq) (t1 : Time) :
    Moves i s (s.probeDeparted c π number t1) :=
  moves_ite_self fun open_ => moves_counters_probing _ (.departed π number t1 open_)

theorem judgeDelay_moves (s : State) (c : CircuitId) (π : Path) : Moves i s (s.judgeDelay c π) := by
  obtain ⟨alarm, h⟩ : ∃ alarm, s.judgeDelay c π = s ∨ ∃ value, s.judgeDelay c π =
      (s.setCircuit c { s.circuit c with probing := { (s.circuit c).probing with
        record := (s.circuit c).probing.record.set π { (s.circuit c).probing.record.get π with alarm := alarm } } }).post
          (.circuit c) .delayLimit value := by
    simp only [State.judgeDelay]
    split
    · exact ⟨false, .inl rfl⟩
    · split
      · exact ⟨false, .inl rfl⟩
      · exact ⟨_, .inr ⟨_, rfl⟩⟩
  obtain same | ⟨value, h⟩ := h
  · rw [same]
  · rw [h]
    exact (ProbingMove.moves (.delayAlarm π alarm)).trans (moves_post ..)

theorem judgeAsymmetry_moves (s : State) (c : CircuitId) : Moves i s (s.judgeAsymmetry c) := by
  simp only [State.judgeAsymmetry]
  split
  · rfl
  · split
    · rfl
    · exact (ProbingMove.moves (.asymmetryAlarm _)).trans (moves_post ..)

theorem delaySample_moves (s : State) (c : CircuitId) (π : Path) {sample : Nat} (plausible : sample ≤ 10000000) :
    Moves i s (s.delaySample c π sample) :=
  ((ProbingMove.moves (.sample π sample plausible)).trans (judgeDelay_moves ..)).trans (judgeAsymmetry_moves ..)

theorem echoArrival_moves (s : State) (c : CircuitId) (π : Path) (t4 : Time) (number : Seq) (t2 t3 : Time) :
    Moves i s (s.echoArrival c π t4 number t2 t3) := by
  simp only [State.echoArrival]
  split
  · exact CircuitMove.moves (.counters _ _)
  · split
    · next trip =>
      simp only [plausible, Bool.and_eq_true, decide_eq_true_eq] at trip
      exact (moves_counters_probing _ (.matched π number)).trans (delaySample_moves _ c π (by omega))
    · exact (moves_counters_probing _ (.matched π number)).trans (CircuitMove.moves (.counters _ _))

theorem applySetProbing_moves {p : Port} (own : i = .setProbing p) (s : State) (c : CircuitId) (set : ProbeSettings) :
    Moves i s (s.applySetProbing c set) := by
  have stored := CircuitMove.moves (s := s) (c := c) (.setProbing own set ((s.circuit c).timerAfterSet set s.localTime))
  simp only [State.applySetProbing]
  split
  · exact ((stored.trans (judgeDelay_moves ..)).trans (judgeDelay_moves ..)).trans (judgeAsymmetry_moves ..)
  · exact stored

/-! ### The circuit table (chapter 1) -/

theorem changeTo_moves (s : State) (c : CircuitId) {w : Circuit} (h : CircuitMove i (s.circuit c) w) :
    Moves i s (s.changeTo c w) :=
  h.moves.trans (moves_post ..)

theorem enterClosed_moves (s : State) (c : CircuitId) (open_ : (s.circuit c).isOpen = true) : Moves i s (s.enterClosed c) :=
  (Move.close c open_).moves.trans (moves_post ..)

theorem postOpenAlarms_moves (s : State) (c : CircuitId) : Moves i s (s.postOpenAlarms c) := by
  simp only [State.postOpenAlarms]
  split
  · rfl
  · exact moves_post ..

theorem openCircuit_moves {p : Port} (own : i = .openCircuit p) (s : State) (c : CircuitId) (l : Layout)
    (range : l.wellFormed = true) (closed : (s.circuit c).isOpen = false) (free : s.tagInUse c l.remoteTag = false)
    (space : l.neededBlocks ≤ s.freeBlocks) : Moves i s (s.openCircuit c l) :=
  (((Move.open_ p own c l s.localTime range closed free space).moves.trans (judgeTx_moves ..)).trans
    (postOpenAlarms_moves ..)).trans (moves_post ..)

theorem takeUnderrun_moves (s : State) (c : CircuitId) (head : Seq) : Moves i s (s.takeUnderrun c head) := by
  simp only [State.takeUnderrun]
  split
  · next running => exact (changeTo_moves s c (.acquiring _ running)).trans (moves_post ..)
  · exact PlayoutMove.moves (.requests _ id)

theorem settleUnderrun_moves (s : State) (c : CircuitId) : Moves i s (s.settleUnderrun c) := by
  unfold State.settleUnderrun
  split
  · exact takeUnderrun_moves ..
  · rfl

theorem closeSettled_moves (s : State) (c : CircuitId) (limit : Nat) (open_ : (s.circuit c).isOpen = true) :
    Moves i s (s.closeSettled c limit) := by
  simp only [State.closeSettled]
  split
  · exact enterClosed_moves s c open_
  · next stays =>
    split
    · exact CircuitMove.moves (.drain _ _)
    · exact changeTo_moves s c (.closing limit open_ (by simpa using fun h => stays (.inr h)))

/-- An underrun request that is taken leaves the circuit open. -/
theorem settleUnderrun_isOpen (s : State) (c : CircuitId) (open_ : (s.circuit c).isOpen = true) :
    ((s.settleUnderrun c).circuit c).isOpen = true := by
  unfold State.settleUnderrun State.takeUnderrun
  split
  · simp only []
    split
    · simp [State.changeTo, State.postCircuitState, State.post_eq, State.setCircuit, State.circuit, Circuit.intoAcquiring,
        Circuit.isOpen]
    · rw [State.circuit_setCircuit_self]
      exact open_
  · exact open_

theorem closeCircuit_moves (s : State) (p : Port) (c : CircuitId) (limit : Nat) (open_ : (s.circuit c).isOpen = true) :
    Moves i s (s.closeCircuit p c limit) := by
  unfold State.closeCircuit
  split
  · exact (settleUnderrun_moves s c).trans (closeSettled_moves _ c limit (settleUnderrun_isOpen s c open_))
  · exact closeSettled_moves s c limit open_

theorem takeAcquisitionComplete_moves (s : State) (c : CircuitId) (complete : (s.circuit c).requests.acquisitionComplete = true) :
    Moves i s (s.takeAcquisitionComplete c) := by
  simp only [State.takeAcquisitionComplete]
  split
  · next acquiring => exact changeTo_moves s c (.running acquiring complete)
  · exact PlayoutMove.moves (.requests _ nofun)

theorem takeOverrun_moves (s : State) (c : CircuitId) (n : Seq) : Moves i s (s.takeOverrun c n) := by
  simp only [State.takeOverrun]
  split
  · next running => exact (changeTo_moves s c (.acquiring _ running)).trans (moves_post ..)
  · exact PlayoutMove.moves (.requests _ id)

theorem takeDrainComplete_moves (s : State) (c : CircuitId) : Moves i s (s.takeDrainComplete c) := by
  simp only [State.takeDrainComplete]
  split
  · next closing => exact enterClosed_moves s c (by simp [Circuit.isOpen, closing])
  · exact PlayoutMove.moves (.requests _ id)

/-! ### The MACs and the reference monitor (chapters 4 and 7) -/

theorem depart_moves (s : State) (π : Path) (e : QueueEntry) : Moves i s (s.depart π e) := by
  have sent : Moves i s ((s.setPath π ((s.pathUnit π).departed (e.frame s.localTime))).updCircuit e.circuit fun v =>
      v.bumpCp π fun k => { k with sent := k.sent + 1 }) :=
    (PathMove.moves (.depart _)).trans (CircuitMove.moves (.counters _ _))
  simp only [State.depart]
  split
  · exact sent.trans (probeDeparted_moves ..)
  · exact sent

theorem receiveFrame_moves (s : State) (π : Path) (octets : List Octet) : Moves i s (s.receiveFrame π octets) := by
  simp only [State.receiveFrame]
  split
  · exact PathMove.moves (.counters _ _ _ _)
  · refine moves_ite_self fun _ => ?_
    cases s.classify octets with
    | format | unknownTag => exact PathMove.moves (.counters _ _ _ _)
    | data c a => exact dataArrival_moves ..
    | probe c number t1 => exact handPacket_moves ..
    | echo c number t2 t3 => exact echoArrival_moves ..

theorem setRef_moves (s : State) {r : RefMonitor} (h : s.ref.SameStored r) : Moves i s (s.setRef r) :=
  (Move.ref (.inr h)).moves

theorem postRefChange_moves (s : State) (left entered : RefState) : Moves i s (s.postRefChange left entered) := by
  unfold State.postRefChange
  split
  · rfl
  · exact moves_post ..

theorem settleWindow_moves (s : State) : Moves i s s.settleWindow := by
  unfold State.settleWindow
  split
  · next w _ =>
    have judged : Moves i s ((s.setRef (s.ref.complete w.start w.edges)).postRefChange s.ref.state
        (s.ref.complete w.start w.edges).state) :=
      (setRef_moves s (r := s.ref.complete w.start w.edges) ⟨rfl, rfl, rfl⟩).trans (postRefChange_moves ..)
    simp only [State.completeWindow]
    split
    · exact judged.trans (handOffset_moves ..)
    · exact judged
  · rfl

theorem RefMonitor.edge_sameStored (r : RefMonitor) (now : Time) : r.SameStored (r.edge now) := by
  unfold RefMonitor.edge
  split <;> exact ⟨rfl, rfl, rfl⟩

theorem risingEdge_moves (s : State) : Moves i s s.risingEdge :=
  (settleWindow_moves s).trans (setRef_moves _ (RefMonitor.edge_sameStored ..))

theorem absenceExpiry_moves (s : State) : Moves i s s.absenceExpiry :=
  (setRef_moves s (r := s.ref.absent) ⟨rfl, rfl, rfl⟩).trans (postRefChange_moves ..)

end Sys2Proof.Machine
end

section
/-! The octets that name a value and the value that octets name, each way (00_scope 5.2, sections 3.5 and 9.6). -/

namespace Sys2Proof.Machine

/-! ### One octet -/

theorem toNat_octet {n : Nat} (h : n < 256) : (octet n).toNat = n := by
  rw [octet, BitVec.toNat_ofNat]
  exact Nat.mod_eq_of_lt h

@[simp] theorem octet_toNat (o : Octet) : octet o.toNat = o := by simp [octet]

theorem eq_octet_iff {o : Octet} {n : Nat} (h : n < 256) : o = octet n ↔ o.toNat = n :=
  ⟨fun e => e ▸ toNat_octet h, fun e => e ▸ (octet_toNat o).symm⟩

theorem circuitOf_eq_some_iff (o : Octet) (c : CircuitId) : circuitOf o = some c ↔ o = octet c.val := by
  have range : c.val < 256 := by omega
  unfold circuitOf
  split
  · rw [eq_octet_iff range, Option.some_inj, Fin.ext_iff]
  · next out =>
    have := c.isLt
    simp only [reduceCtorEq, false_iff]
    rintro rfl
    rw [toNat_octet range] at out
    exact out c.isLt

theorem boolOf_eq_some_iff (o : Octet) (b : Bool) : boolOf o = some b ↔ o = flagOctet b := by
  revert b
  revert o
  decide

theorem pathOf_eq_some_iff (o : Octet) (π : Path) : pathOf o = some π ↔ o = octet (pathCode π) := by
  cases π <;> (revert o; decide)

theorem lineModeOf_eq_some_iff (o : Octet) (m : LineMode) : lineModeOf o = some m ↔ o = modeOctet m := by
  cases m <;> (revert o; decide)

/-- The receive set octet names a set that is not empty (R69). -/
theorem receiveSetOf_eq_some_iff (o : Octet) (rs : PerPath Bool) :
    receiveSetOf o = some rs ↔ (rs.x || rs.y) = true ∧ o = octet (pathBits rs) := by
  obtain ⟨x, y⟩ := rs
  cases x <;> cases y <;> (revert o; decide)

theorem readObjectOf_eq_some_iff (o : Octet) (obj : ReadObject) : readObjectOf o = some obj ↔ o = objectOctet obj := by
  unfold readObjectOf
  cases h : circuitOf o with
  | some c =>
    have named := (circuitOf_eq_some_iff o c).mp h
    cases obj with
    | circuit d => simp only [Option.some_inj, ReadObject.circuit.injEq, objectOctet, ← circuitOf_eq_some_iff, h]
    | path π =>
      have small : o.toNat < 16 := by rw [named, toNat_octet (by omega)]; exact c.isLt
      simp only [Option.some_inj, reduceCtorEq, false_iff, objectOctet]
      rintro rfl
      revert small
      cases π <;> decide
  | none =>
    have large : ∀ d : CircuitId, o ≠ octet d.val := fun d e => by rw [(circuitOf_eq_some_iff o d).mpr e] at h; cases h
    cases obj with
    | circuit d =>
      simp only [objectOctet, large d, iff_false]
      split <;> simp
    | path π => cases π <;> (clear h large; revert o; decide)

/-! ### Numbers of several octets -/

theorem be_length (n v : Nat) : (be n v).length = n := by
  induction n with
  | zero => rfl
  | succ n ih => simp [be, ih]

theorem fromBe_cons (o : Octet) (os : List Octet) : fromBe (o :: os) = o.toNat * 256 ^ os.length + fromBe os := by
  have shift : ∀ (os : List Octet) (a : Nat),
      os.foldl (fun a o => a * 256 + o.toNat) a = a * 256 ^ os.length + os.foldl (fun a o => a * 256 + o.toNat) 0 := by
    intro os
    induction os with
    | nil => simp
    | cons o os ih =>
      intro a
      rw [List.foldl_cons, List.foldl_cons, ih, ih (0 * 256 + o.toNat), List.length_cons]
      ring
  rw [fromBe, List.foldl_cons, shift]
  simp [fromBe]

theorem fromBe_lt (os : List Octet) : fromBe os < 256 ^ os.length := by
  induction os with
  | nil => decide
  | cons o os ih =>
    have := o.isLt
    rw [fromBe_cons, List.length_cons, Nat.pow_succ]
    calc o.toNat * 256 ^ os.length + fromBe os < o.toNat * 256 ^ os.length + 256 ^ os.length := by omega
      _ = (o.toNat + 1) * 256 ^ os.length := by ring
      _ ≤ 256 * 256 ^ os.length := Nat.mul_le_mul_right _ (by omega)
      _ = 256 ^ os.length * 256 := Nat.mul_comm ..

/-- Only a value's octets count: those above are cut off. -/
theorem be_add_mul (n a v : Nat) : be n (a * 256 ^ n + v) = be n v := by
  induction n generalizing a with
  | zero => rfl
  | succ n ih =>
    have split_ : a * 256 ^ (n + 1) + v = (a * 256) * 256 ^ n + v := by ring
    rw [be, be, split_, ih]
    congr 1
    apply BitVec.eq_of_toNat_eq
    rw [BitVec.toNat_ofNat, BitVec.toNat_ofNat, Nat.mul_comm (a * 256), Nat.mul_add_div (by positivity)]
    omega

/-- Octets are those of the number they spell (00_scope 5.2). -/
theorem be_fromBe (os : List Octet) : be os.length (fromBe os) = os := by
  induction os with
  | nil => rfl
  | cons o os ih =>
    have small := fromBe_lt os
    rw [fromBe_cons, List.length_cons, be, be_add_mul, ih, Nat.mul_comm, Nat.mul_add_div (by positivity),
      Nat.div_eq_of_lt small, Nat.add_zero]
    simp

/-- The octets of a number that they can hold spell it (00_scope 5.2). -/
theorem fromBe_be {n v : Nat} (h : v < 256 ^ n) : fromBe (be n v) = v := by
  induction n generalizing v with
  | zero => simp at h; subst h; rfl
  | succ n ih =>
    have top : v / 256 ^ n < 256 := by
      rw [Nat.div_lt_iff_lt_mul (by positivity)]
      rw [Nat.pow_succ] at h
      omega
    have rest : be n v = be n (v % 256 ^ n) := by
      conv_lhs => rw [← Nat.div_add_mod v (256 ^ n), Nat.mul_comm]
      exact be_add_mul ..
    rw [be, fromBe_cons, be_length, rest, ih (Nat.mod_lt _ (by positivity)), BitVec.toNat_ofNat, Nat.mod_eq_of_lt top,
      Nat.mul_comm]
    exact Nat.div_add_mod ..

theorem macOf_be (a : MacAddr) : macOf (be 6 a.toNat) = a := by
  rw [macOf, fromBe_be (by have := a.isLt; omega), BitVec.ofNat_toNat, BitVec.setWidth_eq]

theorem be_macOf {os : List Octet} (h : os.length = 6) : be 6 (macOf os).toNat = os := by
  have small := fromBe_lt os
  rw [h] at small
  rw [macOf, BitVec.toNat_ofNat, Nat.mod_eq_of_lt (by omega), ← h]
  exact be_fromBe os

theorem word_be (w : BitVec 16) : BitVec.ofNat 16 (fromBe (be 2 w.toNat)) = w := by
  rw [fromBe_be (by have := w.isLt; omega), BitVec.ofNat_toNat, BitVec.setWidth_eq]

theorem be_word {os : List Octet} (h : os.length = 2) : be 2 (BitVec.ofNat 16 (fromBe os)).toNat = os := by
  have small := fromBe_lt os
  rw [h] at small
  rw [BitVec.toNat_ofNat, Nat.mod_eq_of_lt (by omega), ← h]
  exact be_fromBe os

end Sys2Proof.Machine
end

section
/-! Every parser of parameter octets reads exactly the octets that spell operands in range (sections 3.5 and 9.5). -/

namespace Sys2Proof.Machine

/-! ### Reading a named value back -/

@[simp] theorem circuitOf_octet (c : CircuitId) : circuitOf (octet c.val) = some c := (circuitOf_eq_some_iff _ _).mpr rfl

@[simp] theorem boolOf_flagOctet (b : Bool) : boolOf (flagOctet b) = some b := (boolOf_eq_some_iff _ _).mpr rfl

@[simp] theorem pathOf_octet (π : Path) : pathOf (octet (pathCode π)) = some π := (pathOf_eq_some_iff _ _).mpr rfl

@[simp] theorem lineModeOf_modeOctet (m : LineMode) : lineModeOf (modeOctet m) = some m := (lineModeOf_eq_some_iff _ _).mpr rfl

@[simp] theorem readObjectOf_objectOctet (o : ReadObject) : readObjectOf (objectOctet o) = some o :=
  (readObjectOf_eq_some_iff _ _).mpr rfl

theorem receiveSetOf_octet {rs : PerPath Bool} (h : (rs.x || rs.y) = true) : receiveSetOf (octet (pathBits rs)) = some rs :=
  (receiveSetOf_eq_some_iff _ _).mpr ⟨h, rfl⟩

theorem within_iff {lo hi n : Nat} : within lo hi n = true ↔ lo ≤ n ∧ n ≤ hi := by simp [within]

/-! ### From the accepted octets to the refused ones -/

/-- A parser that accepts exactly the octets of valid operands, and BAD_LENGTH exactly off its length, reads exactly. -/
theorem readsExactly_of {α : Type} {parse : List Octet → Except ResultCode α} {lengthOk : List Octet → Prop}
    {valid : α → Prop} {encode : α → List Octet}
    (accepts : ∀ ps x, parse ps = .ok x ↔ valid x ∧ ps = encode x)
    (length : ∀ ps, parse ps = .error .badLength ↔ ¬lengthOk ps)
    (codes : ∀ ps e, parse ps = .error e → e = .badLength ∨ e = .badParameter) : ReadsExactly parse lengthOk valid encode := by
  refine ⟨accepts, length, fun ps => ⟨fun refused => ⟨?_, fun x range spelled => ?_⟩, fun ⟨long, spells⟩ => ?_⟩⟩
  · by_contra short
    rw [(length ps).mpr short] at refused
    cases refused
  · rw [(accepts ps x).mpr ⟨range, spelled⟩] at refused
    cases refused
  · cases h : parse ps with
    | ok x =>
      obtain ⟨range, spelled⟩ := (accepts ps x).mp h
      exact absurd spelled (spells x range)
    | error e =>
      obtain rfl | rfl := codes ps e h
      · exact absurd long ((length ps).mp h)
      · rfl

/-! ### Short commands -/

theorem parseNone_reads : ReadsExactly parseNone (fun ps => ps.length = 0) (fun _ => True) (fun _ => []) := by
  refine readsExactly_of ?_ ?_ ?_ <;> intro ps <;> cases ps <;> simp [parseNone]

theorem parseCircuit_reads : ReadsExactly parseCircuit (fun ps => ps.length = 1) (fun _ => True) circuitParams := by
  refine readsExactly_of ?_ ?_ ?_
  · refine fun ps c => ⟨fun h => ?_, ?_⟩
    · unfold parseCircuit at h
      split at h
      · split at h
        · next named =>
          cases h
          exact ⟨trivial, by rw [(circuitOf_eq_some_iff ..).mp named]; rfl⟩
        · cases h
      · cases h
    · rintro ⟨-, rfl⟩
      simp [parseCircuit, circuitParams]
  · intro ps
    unfold parseCircuit
    split
    · split <;> simp
    · next other =>
      simp only [true_iff]
      intro one
      obtain ⟨o, rfl⟩ := List.length_eq_one_iff.mp one
      exact other o rfl
  · intro ps e h
    unfold parseCircuit at h
    split at h
    · split at h <;> cases h
      exact .inr rfl
    · cases h
      exact .inl rfl

theorem parseClose_reads :
    ReadsExactly parseClose (fun ps => ps.length = 2) (fun x => x.2 ≤ 255) (fun x => closeParams x.1 x.2) := by
  refine readsExactly_of ?_ ?_ ?_
  · refine fun ps x => ⟨fun h => ?_, ?_⟩
    · unfold parseClose at h
      split at h
      · split at h
        · next o d _ c named =>
          cases h
          have := d.isLt
          exact ⟨by show d.toNat ≤ 255; omega, by rw [(circuitOf_eq_some_iff ..).mp named]; simp [closeParams]⟩
        · cases h
      · cases h
    · rintro ⟨range, rfl⟩
      simp [parseClose, closeParams, toNat_octet (show x.2 < 256 by omega)]
  · intro ps
    unfold parseClose
    split
    · split <;> simp
    · next other =>
      simp only [true_iff]
      intro two
      obtain ⟨o, d, rfl⟩ := List.length_eq_two.mp two
      exact other o d rfl
  · intro ps e h
    unfold parseClose at h
    split at h
    · split at h <;> cases h
      exact .inr rfl
    · cases h
      exact .inl rfl

theorem parseReadPaths_reads :
    ReadsExactly parseReadPaths (fun ps => ps.length = 1) (fun _ => True) (fun o => [objectOctet o]) := by
  refine readsExactly_of ?_ ?_ ?_
  · refine fun ps obj => ⟨fun h => ?_, ?_⟩
    · unfold parseReadPaths at h
      split at h
      · split at h
        · next named =>
          cases h
          exact ⟨trivial, by rw [(readObjectOf_eq_some_iff ..).mp named]⟩
        · cases h
      · cases h
    · rintro ⟨-, rfl⟩
      simp [parseReadPaths]
  · intro ps
    unfold parseReadPaths
    split
    · split <;> simp
    · next other =>
      simp only [true_iff]
      intro one
      obtain ⟨o, rfl⟩ := List.length_eq_one_iff.mp one
      exact other o rfl
  · intro ps e h
    unfold parseReadPaths at h
    split at h
    · split at h <;> cases h
      exact .inr rfl
    · cases h
      exact .inl rfl

theorem parseReadCounters_reads :
    ReadsExactly parseReadCounters (fun ps => ps.length = 2) (fun x => counterObject x.1 x.2 = true)
      (fun x => readCountersParams x.1 x.2) := by
  refine readsExactly_of ?_ ?_ ?_
  · refine fun ps x => ⟨fun h => ?_, ?_⟩
    · unfold parseReadCounters at h
      split at h
      · split at h
        · next object path =>
          cases h
          rw [(readObjectOf_eq_some_iff ..).mp object, (pathOf_eq_some_iff ..).mp path]
          exact ⟨rfl, rfl⟩
        · next object path =>
          cases h
          rw [(readObjectOf_eq_some_iff ..).mp object, (pathOf_eq_some_iff ..).mp path]
          exact ⟨rfl, rfl⟩
        · cases h
      · cases h
    · obtain ⟨obj, π⟩ := x
      rintro ⟨range, rfl⟩
      cases obj with
      | circuit c => simp [parseReadCounters, readCountersParams]
      | path ρ =>
        obtain rfl : π = .x := by simpa [counterObject] using range
        simp [parseReadCounters, readCountersParams]
  · intro ps
    unfold parseReadCounters
    split
    · split <;> simp
    · next other =>
      simp only [true_iff]
      intro two
      obtain ⟨o, q, rfl⟩ := List.length_eq_two.mp two
      exact other o q rfl
  · intro ps e h
    unfold parseReadCounters at h
    split at h
    · split at h <;> cases h
      exact .inr rfl
    · cases h
      exact .inl rfl

theorem parseConfigureReference_reads :
    ReadsExactly parseConfigureReference (fun ps => ps.length = 3)
      (fun x => within 1 255 x.1 = true ∧ within 1 15 x.2.1 = true) (fun x => configureReferenceParams x.1 x.2.1 x.2.2) := by
  refine readsExactly_of ?_ ?_ ?_
  · refine fun ps x => ⟨fun h => ?_, ?_⟩
    · unfold parseConfigureReference at h
      split at h
      · next tol q word =>
        split at h
        · next range =>
          cases h
          simp only [Bool.and_eq_true, decide_eq_true_eq] at range
          obtain ⟨⟨tolerance, qualify⟩, small⟩ := range
          refine ⟨⟨tolerance, qualify⟩, ?_⟩
          have same : (word.setWidth 7).setWidth 8 = word := by
            apply BitVec.eq_of_toNat_eq
            rw [BitVec.toNat_setWidth, BitVec.toNat_setWidth]
            omega
          simp [configureReferenceParams, same]
        · cases h
      · cases h
    · obtain ⟨tol, q, word⟩ := x
      rintro ⟨⟨tolerance, qualify⟩, rfl⟩
      have small : (word.setWidth 8).toNat ≤ 0x7F := by
        have := word.isLt
        rw [BitVec.toNat_setWidth]
        omega
      have same : (word.setWidth 8).setWidth 7 = word := by
        apply BitVec.eq_of_toNat_eq
        have := word.isLt
        rw [BitVec.toNat_setWidth, BitVec.toNat_setWidth]
        omega
      simp only [within_iff] at tolerance qualify
      simp only [parseConfigureReference, configureReferenceParams, toNat_octet (show tol < 256 by omega),
        toNat_octet (show q < 256 by omega), same]
      rw [if_pos]
      simp [within, tolerance, qualify]
      omega
  · intro ps
    unfold parseConfigureReference
    split
    · split <;> simp
    · next other =>
      simp only [true_iff]
      intro three
      obtain ⟨a, b, c, rfl⟩ := List.length_eq_three.mp three
      exact other a b c rfl
  · intro ps e h
    unfold parseConfigureReference at h
    split at h
    · split at h <;> cases h
      exact .inr rfl
    · cases h
      exact .inl rfl

theorem parseAnswer_reads : ReadsExactly parseAnswer (fun ps => ps.length = 4) (fun _ => True) answerParams := by
  refine readsExactly_of ?_ ?_ ?_
  · refine fun ps answer => ⟨fun h => ?_, ?_⟩
    · unfold parseAnswer at h
      split at h
      · next a3 a2 a1 a0 =>
        cases h
        have small := fromBe_lt [a3, a2, a1, a0]
        simp only [List.length_cons, List.length_nil] at small
        rw [answerParams, BitVec.toNat_ofNat, Nat.mod_eq_of_lt (by omega)]
        exact ⟨trivial, (be_fromBe [a3, a2, a1, a0]).symm⟩
      · cases h
    · rintro ⟨-, rfl⟩
      exact parseAnswer_answerParams answer
  · intro ps
    unfold parseAnswer
    split
    · simp
    · next other =>
      simp only [true_iff]
      intro four
      match ps, four with
      | [a, b, c, d], _ => exact other a b c d rfl
  · intro ps e h
    unfold parseAnswer at h
    split at h <;> cases h
    exact .inl rfl

end Sys2Proof.Machine
end

section
/-! The parsers of the long commands, and of Set Timing, whose Lim is clamped. -/

namespace Sys2Proof.Machine

/-! ### Set Playout, Set Probing, Configure Path -/

theorem parseSetPlayout_reads :
    ReadsExactly parseSetPlayout (fun ps => ps.length = 5) (fun x => x.2.inRange = true)
      (fun x => setPlayoutParams x.1 x.2) := by
  refine readsExactly_of ?_ ?_ ?_
  · refine fun ps x => ⟨fun h => ?_, ?_⟩
    · unfold parseSetPlayout at h
      split at h
      · split at h
        · next o target conceal fill suppress _ _ _ c isFill sup circuit concealed suppressed =>
          split at h
          · cases h
          · next positive =>
            cases h
            have := target.isLt
            refine ⟨within_iff.mpr ⟨by show 1 ≤ target.toNat; omega, by show target.toNat ≤ 255; omega⟩, ?_⟩
            rw [(circuitOf_eq_some_iff ..).mp circuit, (boolOf_eq_some_iff ..).mp concealed,
              (boolOf_eq_some_iff ..).mp suppressed]
            cases isFill <;> simp [setPlayoutParams]
        · cases h
      · cases h
    · obtain ⟨c, target, conceal, fill, suppress⟩ := x
      rintro ⟨range, rfl⟩
      obtain ⟨low, high⟩ : 1 ≤ target ∧ target ≤ 255 := within_iff.mp range
      have positive : ¬target = 0 := by omega
      cases conceal <;> simp [parseSetPlayout, setPlayoutParams, toNat_octet (show target < 256 by omega), positive]
  · intro ps
    unfold parseSetPlayout
    split
    · split
      · split <;> simp
      · simp
    · next other =>
      simp only [true_iff]
      intro five
      match ps, five with
      | [a, b, c, d, e], _ => exact other a b c d e rfl
  · intro ps e h
    unfold parseSetPlayout at h
    split at h
    · split at h
      · split at h <;> cases h
        exact .inr rfl
      · cases h
        exact .inr rfl
    · cases h
      exact .inl rfl

theorem parseSetProbing_reads :
    ReadsExactly parseSetProbing (fun ps => ps.length = 10) (fun x => x.2.inRange = true)
      (fun x => setProbingParams x.1 x.2) := by
  refine readsExactly_of ?_ ?_ ?_
  · refine fun ps x => ⟨fun h => ?_, ?_⟩
    · unfold parseSetProbing at h
      split at h
      · next o interval d3 d2 d1 d0 a3 a2 a1 a0 =>
        split at h
        · next c circuit =>
          simp only [] at h
          split at h
          · next range =>
            cases h
            have := interval.isLt
            have delay := be_fromBe [d3, d2, d1, d0]
            have asymmetry := be_fromBe [a3, a2, a1, a0]
            simp only [List.length_cons, List.length_nil, Nat.zero_add, Nat.reduceAdd] at delay asymmetry
            refine ⟨?_, ?_⟩
            · simp only [ProbeSettings.inRange, Bool.and_eq_true, and_assoc] at range ⊢
              exact ⟨within_iff.mpr ⟨Nat.zero_le _, by show interval.toNat ≤ 255; omega⟩, range⟩
            · rw [(circuitOf_eq_some_iff ..).mp circuit]
              simp [setProbingParams, delay, asymmetry]
          · cases h
        · cases h
      · cases h
    · obtain ⟨c, interval, delay, asymmetry⟩ := x
      rintro ⟨range, rfl⟩
      simp only [ProbeSettings.inRange, Bool.and_eq_true] at range
      obtain ⟨⟨intervalRange, delayRange⟩, asymmetryRange⟩ := range
      have i := within_iff.mp intervalRange
      have d := within_iff.mp delayRange
      have a := within_iff.mp asymmetryRange
      have delayed : fromBe (be 4 delay) = delay := fromBe_be (by omega)
      have skewed : fromBe (be 4 asymmetry) = asymmetry := fromBe_be (by omega)
      rw [be_four] at delayed skewed
      simp [parseSetProbing, setProbingParams, be_four, -octet_mod, delayed, skewed, toNat_octet (show interval < 256 by omega),
        delayRange, asymmetryRange]
  · intro ps
    unfold parseSetProbing
    split
    · split
      · simp only []
        split <;> simp
      · simp
    · next other =>
      simp only [true_iff]
      intro ten
      match ps, ten with
      | [a, b, c, d, e, f, g, i, j, k], _ => exact other a b c d e f g i j k rfl
  · intro ps e h
    unfold parseSetProbing at h
    split at h
    · split at h
      · simp only [] at h
        split at h <;> cases h
        exact .inr rfl
      · cases h
        exact .inr rfl
    · cases h
      exact .inl rfl

theorem be_six (v : Nat) :
    be 6 v = [octet (v / 1099511627776), octet (v / 4294967296 % 256), octet (v / 16777216 % 256), octet (v / 65536 % 256),
      octet (v / 256 % 256), octet (v % 256)] := by
  simp only [octet_mod]
  simp [be, octet]

/-- Bit 0 of the first octet of an address is its bit 40 (R48). -/
theorem be_macOf_first (a0 a1 a2 a3 a4 a5 : Octet) : (macOf [a0, a1, a2, a3, a4, a5]).getLsbD 40 = a0.getLsbD 0 := by
  have rest := fromBe_lt [a1, a2, a3, a4, a5]
  simp only [List.length_cons, List.length_nil, Nat.zero_add, Nat.reduceAdd] at rest
  have value := fromBe_cons a0 [a1, a2, a3, a4, a5]
  simp only [List.length_cons, List.length_nil, Nat.zero_add, Nat.reduceAdd] at value
  have high : fromBe [a0, a1, a2, a3, a4, a5] / 2 ^ 40 = a0.toNat := by
    rw [value]
    omega
  rw [macOf, BitVec.getLsbD_ofNat, Nat.testBit_eq_decide_div_mod_eq, high, BitVec.getLsbD, Nat.testBit_eq_decide_div_mod_eq]
  simp

theorem parseConfigurePath_reads :
    ReadsExactly parseConfigurePath (fun ps => ps.length = 9) (fun x => individual x.2.1 = true)
      (fun x => configurePathParams x.1 x.2.1 x.2.2) := by
  refine readsExactly_of ?_ ?_ ?_
  · refine fun ps x => ⟨fun h => ?_, ?_⟩
    · unfold parseConfigurePath at h
      split at h
      · next q a0 a1 a2 a3 a4 a5 t1 t0 =>
        split at h
        · next π path =>
          split at h
          · cases h
          · next single =>
            cases h
            refine ⟨?_, ?_⟩
            · show (!(macOf [a0, a1, a2, a3, a4, a5]).getLsbD 40) = true
              rw [be_macOf_first]
              simpa using single
            · show _ = configurePathParams π (macOf [a0, a1, a2, a3, a4, a5]) (BitVec.ofNat 16 (fromBe [t1, t0]))
              rw [configurePathParams, be_macOf rfl, be_word rfl, (pathOf_eq_some_iff ..).mp path]
              rfl
        · cases h
      · cases h
    · obtain ⟨π, source, typeCode⟩ := x
      rintro ⟨single, rfl⟩
      have address := macOf_be source
      have type := word_be typeCode
      rw [be_six] at address
      rw [be_two] at type
      have bit := be_macOf_first (octet (source.toNat / 1099511627776)) (octet (source.toNat / 4294967296 % 256))
        (octet (source.toNat / 16777216 % 256)) (octet (source.toNat / 65536 % 256)) (octet (source.toNat / 256 % 256))
        (octet (source.toNat % 256))
      rw [address] at bit
      have low : source.getLsbD 40 = false := Bool.not_eq_true' _ ▸ single
      simp only [configurePathParams, parseConfigurePath, be_six, be_two, List.cons_append, List.nil_append, pathOf_octet,
        address, type]
      rw [if_neg (by rw [← bit, low]; exact Bool.false_ne_true)]
  · intro ps
    unfold parseConfigurePath
    split
    · split
      · split <;> simp
      · simp
    · next other =>
      simp only [true_iff]
      intro nine
      match ps, nine with
      | [a, b, c, d, e, f, g, i, j], _ => exact other a b c d e f g i j rfl
  · intro ps e h
    unfold parseConfigurePath at h
    split at h
    · split at h
      · split at h <;> cases h
        exact .inr rfl
      · cases h
        exact .inr rfl
    · cases h
      exact .inl rfl

/-! ### Set Paths -/

/-- The path settings' ranges, one by one (R69). -/
theorem PathSettings.inRange_iff (t : PathSettings) :
    t.inRange = true ↔ (t.receiveSet.x || t.receiveSet.y) = true ∧ within 1 7 t.goodStep = true ∧ within 1 7 t.badStep = true
      ∧ within 1 14 t.low = true ∧ within (t.low + 1) 15 t.high = true := by
  simp only [PathSettings.inRange, Bool.and_eq_true, and_assoc]

theorem parseSetPaths_reads :
    ReadsExactly parseSetPaths (fun ps => ps.length = 20) (fun x => x.2.inRange = true)
      (fun x => setPathsParams x.1 x.2) := by
  refine readsExactly_of ?_ ?_ ?_
  · refine fun ps x => ⟨fun h => ?_, ?_⟩
    · unfold parseSetPaths at h
      split at h
      · next i mode pref rs x0 x1 x2 x3 x4 x5 y0 y1 y2 y3 y4 y5 good bad low high =>
        split at h
        · next _ _ _ _ c single preferred receiveSet circuit moded path received =>
          split at h
          · next range =>
            cases h
            obtain ⟨nonempty, set⟩ := (receiveSetOf_eq_some_iff ..).mp received
            refine ⟨?_, ?_⟩
            · rw [PathSettings.inRange_iff]
              simp only [Bool.and_eq_true, and_assoc] at range
              exact ⟨nonempty, range⟩
            · simp only [setPathsParams]
              rw [be_macOf rfl, be_macOf rfl, (circuitOf_eq_some_iff ..).mp circuit, (boolOf_eq_some_iff ..).mp moded,
                (pathOf_eq_some_iff ..).mp path, set]
              cases single <;> simp
          · cases h
        · cases h
      · cases h
    · obtain ⟨c, mode, preferred, receiveSet, ⟨x, y⟩, good, bad, low, high⟩ := x
      rintro ⟨range, rfl⟩
      obtain ⟨nonempty, goodRange, badRange, lowRange, highRange⟩ := (PathSettings.inRange_iff _).mp range
      simp only at nonempty goodRange badRange lowRange highRange
      have g := within_iff.mp goodRange
      have b := within_iff.mp badRange
      have l := within_iff.mp lowRange
      have h := within_iff.mp highRange
      have toX := macOf_be x
      have toY := macOf_be y
      rw [be_six] at toX toY
      simp only [setPathsParams, be_six, List.cons_append, List.nil_append, parseSetPaths, circuitOf_octet, boolOf_flagOctet,
        pathOf_octet, receiveSetOf_octet nonempty, toX, toY, toNat_octet (show good < 256 by omega),
        toNat_octet (show bad < 256 by omega), toNat_octet (show low < 256 by omega), toNat_octet (show high < 256 by omega),
        goodRange, badRange, lowRange, highRange]
      cases mode <;> rfl
  · intro ps
    unfold parseSetPaths
    split
    · split
      · split <;> simp
      · simp
    · next other =>
      simp only [true_iff]
      intro twenty
      match ps, twenty with
      | [a, b, c, d, e, f, g, i, j, k, l, m, n, o, p, q, r, s, t, u], _ =>
        exact other a b c d e f g i j k l m n o p q r s t u rfl
  · intro ps e h
    unfold parseSetPaths at h
    split at h
    · split at h
      · split at h <;> cases h
        exact .inr rfl
      · cases h
        exact .inr rfl
    · cases h
      exact .inl rfl

end Sys2Proof.Machine
end

section
/-! The parsers of Set Timing, whose Lim is clamped, of Configure Supervision and of Open Circuit; the parameter octets of every
command (section 9.5). -/

namespace Sys2Proof.Machine

/-! ### Set Timing (R115) -/

theorem TimingSettings.carried_iff (t : TimingSettings) :
    t.carried = true ↔ t.lim < 4294967296 ∧ t.gp ≤ 255 ∧ t.gi ≤ 255 ∧ within 4 8 t.m = true := by
  simp [TimingSettings.carried, within, and_assoc]

theorem parseSetTiming_setTimingParams (c : CircuitId) {t : TimingSettings} (h : t.carried = true) :
    parseSetTiming (setTimingParams c t) = .ok (c, { t with lim := clampLim t.lim }) := by
  obtain ⟨mode, lim, gp, gi, m⟩ := t
  obtain ⟨limRange, gpRange, giRange, mRange⟩ := (TimingSettings.carried_iff _).mp h
  simp only at limRange gpRange giRange mRange
  have small := within_iff.mp mRange
  have limit : fromBe (be 4 lim) = lim := fromBe_be (by omega)
  rw [be_four] at limit
  simp only [setTimingParams, be_four, List.cons_append, List.nil_append, parseSetTiming, circuitOf_octet, boolOf_flagOctet, limit,
    toNat_octet (show gp < 256 by omega), toNat_octet (show gi < 256 by omega), toNat_octet (show m < 256 by omega), mRange]
  cases mode <;> rfl

/-- Octets that Set Timing accepts are those of settings with the Lim they carry, which is stored clamped. -/
theorem parseSetTiming_eq_ok {ps : List Octet} {x : CircuitId × TimingSettings} (h : parseSetTiming ps = .ok x) :
    ∃ t : TimingSettings, t.carried = true ∧ ps = setTimingParams x.1 t ∧ x.2 = { t with lim := clampLim t.lim } := by
  unfold parseSetTiming at h
  split at h
  · next i mode l3 l2 l1 l0 gp gi m =>
    split at h
    · next _ _ c station circuit moded =>
      split at h
      · next range =>
        cases h
        have limit := be_fromBe [l3, l2, l1, l0]
        have small := fromBe_lt [l3, l2, l1, l0]
        simp only [List.length_cons, List.length_nil, Nat.zero_add, Nat.reduceAdd] at limit small
        have := gp.isLt
        have := gi.isLt
        refine ⟨⟨if station then .station else .adaptive, fromBe [l3, l2, l1, l0], gp.toNat, gi.toNat, m.toNat⟩, ?_, ?_, rfl⟩
        · exact (TimingSettings.carried_iff _).mpr
            ⟨by omega, by show gp.toNat ≤ 255; omega, by show gi.toNat ≤ 255; omega, range⟩
        · simp only [setTimingParams]
          rw [limit, (circuitOf_eq_some_iff ..).mp circuit, (boolOf_eq_some_iff ..).mp moded]
          cases station <;> simp
      · cases h
    · cases h
  · cases h

/-- What Set Timing stores is in range (R115). -/
theorem parseSetTiming_inRange {ps : List Octet} {x : CircuitId × TimingSettings} (h : parseSetTiming ps = .ok x) :
    x.2.inRange = true := by
  obtain ⟨t, carried, -, stored⟩ := parseSetTiming_eq_ok h
  obtain ⟨-, gp, gi, m⟩ := (TimingSettings.carried_iff _).mp carried
  have := within_iff.mp m
  rw [stored]
  simp [TimingSettings.inRange, within, clampLim]
  omega

theorem parseSetTiming_badLength_iff (ps : List Octet) : parseSetTiming ps = .error .badLength ↔ ps.length ≠ 9 := by
  unfold parseSetTiming
  split
  · split
    · split <;> simp
    · simp
  · next other =>
    simp only [true_iff]
    intro nine
    match ps, nine with
    | [a, b, c, d, e, f, g, i, j], _ => exact other a b c d e f g i j rfl

theorem parseSetTiming_error {ps : List Octet} {e : ResultCode} (h : parseSetTiming ps = .error e) :
    e = .badLength ∨ e = .badParameter := by
  unfold parseSetTiming at h
  split at h
  · split at h
    · split at h <;> cases h
      exact .inr rfl
    · cases h
      exact .inr rfl
  · cases h
    exact .inl rfl

/-! ### Configure Supervision (R156) -/

/-- The ranges of the supervision settings as its parser checks them, octet ranges apart (R156). -/
theorem SupSettings.inRange_iff (t : SupSettings) :
    t.inRange = true ↔
      (t.answerOpen ≤ 255 ∧ t.answerClose ≤ 255 ∧ t.answerGrace ≤ 255 ∧ t.fetchOpen ≤ 255 ∧ t.fetchClose ≤ 255
        ∧ t.fetchGrace ≤ 255)
      ∧ t.answerOpen < t.answerClose ∧ t.fetchOpen < t.fetchClose ∧ within 1 7 t.goodStep = true ∧ within 1 7 t.badStep = true
      ∧ within 1 14 t.low = true ∧ within (t.low + 1) 15 t.high = true := by
  simp only [SupSettings.inRange, within, Bool.and_eq_true, decide_eq_true_eq]
  omega

theorem parseSupervision_reads :
    ReadsExactly parseSupervision (fun ps => ps.length = 15) (fun t => t.inRange = true) supervisionParams := by
  refine readsExactly_of ?_ ?_ ?_
  · refine fun ps t => ⟨fun h => ?_, ?_⟩
    · unfold parseSupervision at h
      split at h
      · next ao ac ag fo fc fg strict rot roz good bad low high k1 k0 =>
        split at h
        · next _ _ _ st rt rz stricted timeout zero =>
          split at h
          · next range =>
            cases h
            have octets : ∀ o : Octet, o.toNat ≤ 255 := fun o => by have := o.isLt; omega
            simp only [Bool.and_eq_true, decide_eq_true_eq, and_assoc] at range
            refine ⟨(SupSettings.inRange_iff _).mpr ⟨⟨octets ao, octets ac, octets ag, octets fo, octets fc, octets fg⟩, range⟩, ?_⟩
            simp only [supervisionParams]
            rw [be_word rfl, (boolOf_eq_some_iff ..).mp stricted, (boolOf_eq_some_iff ..).mp timeout,
              (boolOf_eq_some_iff ..).mp zero]
            simp
          · cases h
        · cases h
      · cases h
    · obtain ⟨ao, ac, ag, fo, fc, fg, strict, rot, roz, good, bad, low, high, key⟩ := t
      rintro ⟨range, rfl⟩
      obtain ⟨⟨ao', ac', ag', fo', fc', fg'⟩, answer, fetch, goodRange, badRange, lowRange, highRange⟩ :=
        (SupSettings.inRange_iff _).mp range
      simp only at ao' ac' ag' fo' fc' fg' answer fetch goodRange badRange lowRange highRange
      have g := within_iff.mp goodRange
      have b := within_iff.mp badRange
      have l := within_iff.mp lowRange
      have h := within_iff.mp highRange
      have keyed := word_be key
      rw [be_two] at keyed
      simp only [supervisionParams, be_two, List.cons_append, List.nil_append, parseSupervision, boolOf_flagOctet, keyed,
        toNat_octet (show ao < 256 by omega), toNat_octet (show ac < 256 by omega), toNat_octet (show ag < 256 by omega),
        toNat_octet (show fo < 256 by omega), toNat_octet (show fc < 256 by omega), toNat_octet (show fg < 256 by omega),
        toNat_octet (show good < 256 by omega), toNat_octet (show bad < 256 by omega), toNat_octet (show low < 256 by omega),
        toNat_octet (show high < 256 by omega), goodRange, badRange, lowRange, highRange, answer, fetch]
      rfl
  · intro ps
    unfold parseSupervision
    split
    · split
      · split <;> simp
      · simp
    · next other =>
      simp only [true_iff]
      intro fifteen
      match ps, fifteen with
      | [a, b, c, d, e, f, g, i, j, k, l, m, n, o, p], _ => exact other a b c d e f g i j k l m n o p rfl
  · intro ps e h
    unfold parseSupervision at h
    split at h
    · split at h
      · split at h <;> cases h
        exact .inr rfl
      · cases h
        exact .inr rfl
    · cases h
      exact .inl rfl

/-! ### Open Circuit (R12, R13) -/

theorem slots_bound {mode : LineMode} {slots : List Nat} (h : slotsWellFormed mode slots = true) :
    slots.length ≤ 31 ∧ ∀ n ∈ slots, n ≤ 31 := by
  cases mode with
  | unstructured =>
    obtain rfl : slots = [] := by simpa [slotsWellFormed] using h
    simp
  | structured =>
    simp only [slotsWellFormed, Bool.and_eq_true, decide_eq_true_eq, List.all_eq_true] at h
    obtain ⟨⟨⟨-, length⟩, each⟩, -⟩ := h
    exact ⟨length, fun n member => (each n member).2⟩

theorem map_octet_toNat (os : List Octet) : (os.map BitVec.toNat).map octet = os := by
  simp [Function.comp_def]

theorem map_toNat_octet {slots : List Nat} (h : ∀ n ∈ slots, n ≤ 31) : (slots.map octet).map BitVec.toNat = slots := by
  rw [List.map_map]
  refine (List.map_congr_left fun n member => ?_).trans (List.map_id _)
  exact toNat_octet (by have := h n member; omega)

theorem parseOpen_openParams (c : CircuitId) {l : Layout} (h : l.wellFormed = true) :
    parseOpen (openParams c l) = .ok (c, l) := by
  obtain ⟨slotsOk, ⟨-, fpp⟩, ⟨-, k⟩, ⟨-, localTag⟩, ⟨-, remoteTag⟩, ⟨-, acq⟩, -, loss⟩ := l.wellFormed_iff.mp h
  obtain ⟨length, each⟩ := slots_bound slotsOk
  obtain ⟨mode, slots, fpp', k', localTag', remoteTag', acq', loss'⟩ := l
  simp only at fpp k localTag remoteTag acq loss length each
  have localRead : fromBe (be 2 localTag') = localTag' := fromBe_be (by omega)
  have remoteRead : fromBe (be 2 remoteTag') = remoteTag' := fromBe_be (by omega)
  rw [be_two] at localRead remoteRead
  simp only [openParams, be_two, List.cons_append, List.nil_append, parseOpen, circuitOf_octet, lineModeOf_modeOctet, localRead,
    remoteRead, toNat_octet (show fpp' < 256 by omega), toNat_octet (show k' < 256 by omega),
    toNat_octet (show acq' < 256 by omega), toNat_octet (show loss' < 256 by omega), map_toNat_octet each, h,
    toNat_octet (show slots.length < 256 by omega), List.length_cons, List.length_map]
  rw [if_neg]
  · rfl
  · simp
    omega

theorem parseOpen_eq_ok {ps : List Octet} {x : CircuitId × Layout} (h : parseOpen ps = .ok x) :
    x.2.wellFormed = true ∧ ps = openParams x.1 x.2 := by
  unfold parseOpen at h
  split at h
  · next i mode fpp k l1 l0 r1 r0 acq loss count slots =>
    split at h
    · cases h
    · next long =>
      split at h
      · next _ _ c m circuit moded =>
        simp only [] at h
        split at h
        · next range =>
          cases h
          refine ⟨range, ?_⟩
          have counted : slots.length = count.toNat := by
            simp at long
            omega
          have localTag := be_fromBe [l1, l0]
          have remoteTag := be_fromBe [r1, r0]
          simp only [List.length_cons, List.length_nil, Nat.zero_add, Nat.reduceAdd] at localTag remoteTag
          simp only [openParams, localTag, remoteTag, map_octet_toNat, List.length_map, counted]
          rw [(circuitOf_eq_some_iff ..).mp circuit, (lineModeOf_eq_some_iff ..).mp moded]
          simp
        · cases h
      · cases h
  · cases h

theorem parseOpen_badLength_iff (ps : List Octet) : parseOpen ps = .error .badLength ↔ ¬openLengthOk ps := by
  unfold parseOpen openLengthOk
  split
  · next i mode fpp k l1 l0 r1 r0 acq loss count slots =>
    split
    · next short =>
      simp only [true_iff]
      rintro ⟨atMost, count', at10, announced⟩
      simp only [List.getElem?_cons_succ, List.getElem?_cons_zero, Option.some_inj] at at10
      subst at10
      simp at short atMost announced
      omega
    · next long =>
      have ok : (i :: mode :: fpp :: k :: l1 :: l0 :: r1 :: r0 :: acq :: loss :: count :: slots).length ≤ 42 ∧
          ∃ count' : Octet,
            (i :: mode :: fpp :: k :: l1 :: l0 :: r1 :: r0 :: acq :: loss :: count :: slots)[10]? = some count'
              ∧ (i :: mode :: fpp :: k :: l1 :: l0 :: r1 :: r0 :: acq :: loss :: count :: slots).length = 11 + count'.toNat := by
        simp at long
        refine ⟨?_, count, rfl, ?_⟩ <;> simp <;> omega
      simp only [ok]
      split
      · split <;> simp
      · simp
  · next other =>
    simp only [true_iff]
    rintro ⟨-, count, at10, -⟩
    match ps, at10 with
    | i :: mode :: fpp :: k :: l1 :: l0 :: r1 :: r0 :: acq :: loss :: count :: slots, _ =>
      exact other i mode fpp k l1 l0 r1 r0 acq loss count slots rfl

theorem parseOpen_reads :
    ReadsExactly parseOpen openLengthOk (fun x => x.2.wellFormed = true) (fun x => openParams x.1 x.2) := by
  refine readsExactly_of (fun ps x => ⟨parseOpen_eq_ok, ?_⟩) parseOpen_badLength_iff ?_
  · rintro ⟨range, rfl⟩
    exact parseOpen_openParams x.1 range
  · intro ps e h
    unfold parseOpen at h
    split at h
    · split at h
      · cases h
        exact .inl rfl
      · split at h
        · simp only [] at h
          split at h <;> cases h
          exact .inr rfl
        · cases h
          exact .inr rfl
    · cases h
      exact .inl rfl

/-- Settles O26: each parser by its own lemma. -/
theorem parametersRead : Obligations.ParametersRead :=
  ⟨parseCircuit_reads, parseOpen_reads, parseClose_reads, parseSetPaths_reads, parseSetProbing_reads, parseSetPlayout_reads,
    fun c _ range => parseSetTiming_setTimingParams c range,
    fun _ _ h => (parseSetTiming_eq_ok h).imp fun _ ⟨range, spelled, _⟩ => ⟨range, spelled⟩,
    parseSetTiming_badLength_iff, parseNone_reads, parseReadPaths_reads, parseReadCounters_reads, parseConfigureReference_reads,
    parseConfigurePath_reads, parseAnswer_reads, parseSupervision_reads⟩

/-! ### Refusals -/

/-- The owner of a command refuses a frame with the code of its parser, and changes nothing. -/
theorem refusesBadFrames_of {α β : Type} {command : Port → Instr} {code : Octet} {lengthOk : List Octet → Prop}
    {valid : α → Prop} {encode : α → List Octet} {rule : Port → List Octet → State → State × List Octet}
    {parse : List Octet → Except ResultCode β}
    (served : ∀ p s, exec (command p) s = .next (serve p code (rule p) s))
    (refused : ∀ p ps s e, parse ps = .error e → rule p ps s = (s, refuse e))
    (length : ∀ ps, ¬lengthOk ps → parse ps = .error .badLength)
    (range : ∀ ps, lengthOk ps → (∀ x, valid x → ps ≠ encode x) → parse ps = .error .badParameter) :
    RefusesBadFrames command code lengthOk valid encode := by
  intro p ps s frame
  have answer : ∀ e, parse ps = .error e → exec (command p) s = .next (s.answers p (refuse e)) := fun e h => by
    rw [served, serve_atOwner _ frame, refused p ps s e h]
    rfl
  exact ⟨fun short => answer _ (length ps short), fun long spells => answer _ (range ps long spells)⟩

theorem refusesBadFrames_of_reads {α : Type} {command : Port → Instr} {code : Octet} {lengthOk : List Octet → Prop}
    {valid : α → Prop} {encode : α → List Octet} {rule : Port → List Octet → State → State × List Octet}
    {parse : List Octet → Except ResultCode α} (reads : ReadsExactly parse lengthOk valid encode)
    (served : ∀ p s, exec (command p) s = .next (serve p code (rule p) s))
    (refused : ∀ p ps s e, parse ps = .error e → rule p ps s = (s, refuse e)) :
    RefusesBadFrames command code lengthOk valid encode :=
  refusesBadFrames_of served refused (fun ps => (reads.2.1 ps).mpr) fun ps long spells => (reads.2.2 ps).mpr ⟨long, spells⟩

theorem setTiming_refuses :
    RefusesBadFrames .setTiming 0x14 (fun ps => ps.length = 9) (fun x : CircuitId × TimingSettings => x.2.carried = true)
      (fun x => setTimingParams x.1 x.2) := by
  refine refusesBadFrames_of (rule := fun _ => ruleSetTiming) (fun _ _ => rfl)
    (fun _ _ _ _ h => by rw [ruleSetTiming, h]) (fun ps => (parseSetTiming_badLength_iff ps).mpr) fun ps long spells => ?_
  cases h : parseSetTiming ps with
  | ok x =>
    obtain ⟨t, range, spelled, -⟩ := parseSetTiming_eq_ok h
    exact absurd spelled (spells (x.1, t) range)
  | error e =>
    obtain rfl | rfl := parseSetTiming_error h
    · exact absurd long ((parseSetTiming_badLength_iff ps).mp h)
    · rfl

/-- Settles O27: each rule answers its parser's code before it looks at the state. -/
theorem badFramesRefused : Obligations.BadFramesRefused :=
  ⟨refusesBadFrames_of_reads parseOpen_reads (rule := fun _ => ruleOpenCircuit) (fun _ _ => rfl)
      (fun _ _ _ _ h => by rw [ruleOpenCircuit, h]),
    refusesBadFrames_of_reads parseClose_reads (fun _ _ => rfl) (fun _ _ _ _ h => by rw [ruleCloseCircuit, h]),
    refusesBadFrames_of_reads parseCircuit_reads (rule := fun _ => ruleHoldCircuit) (fun _ _ => rfl)
      (fun _ _ _ _ h => by rw [ruleHoldCircuit, h]),
    refusesBadFrames_of_reads parseCircuit_reads (rule := fun _ => ruleResumeCircuit) (fun _ _ => rfl)
      (fun _ _ _ _ h => by rw [ruleResumeCircuit, h]),
    setTiming_refuses,
    refusesBadFrames_of_reads parseSetPaths_reads (rule := fun _ => ruleSetPaths) (fun _ _ => rfl)
      (fun _ _ _ _ h => by rw [ruleSetPaths, h]),
    refusesBadFrames_of_reads parseSetProbing_reads (rule := fun _ => ruleSetProbing) (fun _ _ => rfl)
      (fun _ _ _ _ h => by rw [ruleSetProbing, h]),
    refusesBadFrames_of_reads parseSetPlayout_reads (rule := fun _ => ruleSetPlayout) (fun _ _ => rfl)
      (fun _ _ _ _ h => by rw [ruleSetPlayout, h]),
    refusesBadFrames_of_reads parseCircuit_reads (rule := fun _ => ruleReadCircuit) (fun _ _ => rfl)
      (fun _ _ _ _ h => by rw [ruleReadCircuit, h]),
    refusesBadFrames_of_reads parseCircuit_reads (rule := fun _ => ruleReadPlayout) (fun _ _ => rfl)
      (fun _ _ _ _ h => by rw [ruleReadPlayout, h]),
    refusesBadFrames_of_reads parseCircuit_reads (fun _ _ => rfl) (fun _ _ _ _ h => by rw [ruleReadTiming, h]),
    refusesBadFrames_of_reads parseReadPaths_reads (rule := fun _ => ruleReadPaths) (fun _ _ => rfl)
      (fun _ _ _ _ h => by rw [ruleReadPaths, h]),
    refusesBadFrames_of_reads parseCircuit_reads (fun _ _ => rfl) (fun _ _ _ _ h => by rw [ruleReadDelay, h]),
    refusesBadFrames_of_reads parseReadCounters_reads (rule := fun _ => ruleReadCounters) (fun _ _ => rfl)
      (fun _ _ _ _ h => by rw [ruleReadCounters, h]),
    refusesBadFrames_of_reads parseConfigureReference_reads (rule := fun _ => ruleConfigureReference) (fun _ _ => rfl)
      (fun _ _ _ _ h => by rw [ruleConfigureReference, h]),
    refusesBadFrames_of_reads parseNone_reads (rule := fun _ => ruleReadReference) (fun _ _ => rfl)
      (fun _ _ _ _ h => by rw [ruleReadReference, h]),
    refusesBadFrames_of_reads parseConfigurePath_reads (rule := fun _ => ruleConfigurePath) (fun _ _ => rfl)
      (fun _ _ _ _ h => by rw [ruleConfigurePath, h]),
    refusesBadFrames_of_reads parseSupervision_reads (fun _ _ => rfl) (fun _ _ _ _ h => by rw [ruleConfigureSupervision, h])⟩

end Sys2Proof.Machine
end

section
/-! The control ports, the supervision units and the commands' rules as chains of moves, and with them every command but device
reset. -/

namespace Sys2Proof.Machine

variable {i : Instr} {s t : State}

/-! ### The exchange of a port (R147 to R152) -/

@[simp] theorem setTransit_get (s : State) (p : Port) : s.setTransit p (s.transit.get p) = s := by
  simp [State.setTransit]

@[simp] theorem setPort_port (s : State) (p : Port) : s.setPort p (s.port p) = s := by
  simp [State.setPort, State.port]

/-- A port that changes with nothing handed on or taken back. -/
theorem setPort_moves {p : Port} {u : PortUnit} (keeps : ∀ x, ExchangeAt (s.port p) x → ExchangeAt u x) :
    Moves i s (s.setPort p u) := by
  have move := Move.exchange (i := i) (s := s) p (u := u) (x := s.transit.get p) (fun none_ => .inl none_) (keeps _)
  rw [← State.setPort_transit s p u, setTransit_get] at move
  exact move.moves

theorem setTransit_moves {p : Port} {x : Transit} (keeps : ExchangeAt (s.port p) (s.transit.get p) → ExchangeAt (s.port p) (some x)) :
    Moves i s (s.setTransit p (some x)) := by
  have move := Move.exchange (i := i) (s := s) p (u := s.port p) (x := some x) nofun keeps
  rw [setPort_port] at move
  exact move.moves

/-- The exchange looks at five items of a port. -/
theorem exchangeAt_congr {u w : PortUnit} {x : Option Transit} (phase : w.phase = u.phase) (result : w.result = u.result)
    (flight : w.inFlight = u.inFlight) (waiting : w.waiting = u.waiting) (orphan : w.orphan = u.orphan)
    (h : ExchangeAt u x) : ExchangeAt w x := by
  unfold ExchangeAt at h ⊢
  rwa [phase, result, flight, waiting, orphan]

/-- In COMMAND a port holds nothing, and what is with the owners is an orphan. -/
theorem exchangeAt_command {u : PortUnit} {x : Option Transit} (phase : u.phase = .command) :
    ExchangeAt u x ↔ u.result = none ∧ u.inFlight = none ∧ u.waiting = none ∧ (x.isSome = true ↔ u.orphan = true) := by
  unfold ExchangeAt
  rw [phase]
  cases u.result <;> cases u.inFlight <;> cases u.waiting <;> simp

theorem completeFrame_moves (s : State) (p : Port) (phase : (s.port p).phase = .command) : Moves i s (s.completeFrame p) := by
  simp only [State.completeFrame]
  split
  · refine setPort_moves fun x sound => ?_
    obtain ⟨-, flight, waiting, orphan⟩ := (exchangeAt_command phase).mp sound
    simp [ExchangeAt, PortUnit.frameTaken, flight, waiting, orphan]
  · split
    · next orphaned =>
      refine setPort_moves fun x sound => ?_
      obtain ⟨result, flight, -, orphan⟩ := (exchangeAt_command phase).mp sound
      simp [ExchangeAt, PortUnit.frameTaken, result, flight, orphan, orphaned]
    · next alone =>
      have handed : ∀ y : Transit, Moves i s ((s.setPort p { (s.port p).frameTaken with
          phase := .executing, inFlight := some (frameOf (s.port p).partialFrame) }).setTransit p (some y)) := by
        refine fun y => (Move.exchange (x := some y) p nofun fun sound => ?_).moves
        obtain ⟨result, -, waiting, -⟩ := (exchangeAt_command phase).mp sound
        simp [ExchangeAt, PortUnit.frameTaken, result, waiting, alone]
      unfold State.handOn
      split
      · exact handed _
      · exact handed _

theorem settlePort_moves (s : State) (p : Port) : Moves i s (s.settlePort p) := by
  refine moves_ite_self fun ready => completeFrame_moves s p ?_
  simp only [PortUnit.frameReady, Bool.and_eq_true, decide_eq_true_eq] at ready
  exact ready.1

theorem startTransaction_moves (s : State) (p : Port) : Moves i s (s.startTransaction p) := by
  simp only [State.startTransaction]
  split
  · rfl
  · exact setPort_moves fun x => exchangeAt_congr rfl rfl rfl rfl rfl

theorem PortUnit.inputOctet_exchange (u : PortUnit) (t : Transaction) (o : Octet) {x : Option Transit}
    (h : ExchangeAt u x) : ExchangeAt (u.inputOctet t o) x := by
  unfold PortUnit.inputOctet PortUnit.writtenOctet
  split
  · exact exchangeAt_congr rfl rfl rfl rfl rfl h
  · exact h
  · split
    · exact h
    · split
      · exact h
      · split <;> exact exchangeAt_congr rfl rfl rfl rfl rfl h
      · exact exchangeAt_congr rfl rfl rfl rfl rfl h
      · exact exchangeAt_congr rfl rfl rfl rfl rfl h

theorem inputOctet_moves (s : State) (p : Port) (o : Octet) : Moves i s (s.inputOctet p o) := by
  unfold State.inputOctet
  split
  · exact setPort_moves fun _ => PortUnit.inputOctet_exchange _ _ _
  · rfl

theorem endTransaction_moves (s : State) (p : Port) : Moves i s (s.endTransaction p) := by
  refine moves_ite_self fun _ => setPort_moves fun x sound => ?_
  unfold PortUnit.endTransaction
  split <;> exact exchangeAt_congr rfl rfl rfl rfl rfl sound

theorem PortUnit.resultOctetSent_exchange {u : PortUnit} {r : List Octet} (pending : u.result = some r) {x : Option Transit}
    (h : ExchangeAt u x) : ExchangeAt (u.resultOctetSent r) x := by
  unfold PortUnit.resultOctetSent
  split
  · obtain ⟨result, executing, waiting, flight, with_⟩ := h
    have phase : u.phase = .result := result.mp (by rw [pending]; rfl)
    rw [phase] at executing
    simp only [reduceCtorEq, false_iff, not_or, Bool.not_eq_true, Option.isSome_eq_false_iff, Option.isNone_iff_eq_none]
      at executing
    obtain ⟨noFlight, noWaiting⟩ := executing
    exact (exchangeAt_command rfl).mpr ⟨rfl, noFlight, noWaiting, by simpa [noFlight] using with_⟩
  · exact exchangeAt_congr rfl rfl rfl rfl rfl h

theorem resultArrives_moves {p : Port} (own : i = .resultArrival p) (s : State) (r : List Octet) :
    Moves i s (s.resultArrives p r) := by
  have gone : ∀ {x : Option Transit}, x = none → s.transit.get p = none ∨ i = .resultArrival p := fun _ => .inr own
  have swap : ∀ (u : PortUnit) (x : Option Transit),
      ((s.setTransit p none).setPort p u).setTransit p x = (s.setPort p u).setTransit p x := by
    intro u x
    simp [State.setTransit, State.setPort]
  simp only [State.resultArrives]
  split
  · next orphaned =>
    split
    · next f waiting =>
      have handed : ∀ y : Transit, Moves i s ((s.setPort p { s.port p with
          orphan := false, waiting := none, inFlight := some f }).setTransit p (some y)) := by
        refine fun y => (Move.exchange (x := some y) p gone fun sound => ?_).moves
        obtain ⟨result, executing, -, -, -⟩ := sound
        simp [ExchangeAt, result, executing, waiting]
      unfold State.handOn
      split
      · rw [swap]
        exact handed _
      · rw [swap]
        exact handed _
    · next waiting =>
      refine (Move.exchange p (u := { s.port p with orphan := false }) (x := none) gone fun sound => ?_).moves
      obtain ⟨result, executing, -, flight, -⟩ := sound
      have noFlight : (s.port p).inFlight = none := by
        cases h : (s.port p).inFlight with
        | none => rfl
        | some f => rw [orphaned] at flight; exact absurd (flight (by rw [h]; rfl)) nofun
      simp [ExchangeAt, result, executing, waiting, noFlight]
  · next alone =>
    split
    · next inFlight =>
      refine (Move.exchange p (u := { s.port p with phase := .result, result := some r, readPos := 0, inFlight := none })
        (x := none) gone fun sound => ?_).moves
      obtain ⟨-, -, behind, -, -⟩ := sound
      have waiting : (s.port p).waiting = none := by
        cases h : (s.port p).waiting with
        | none => rfl
        | some f => exact absurd (behind (by rw [h]; rfl)) alone
      simp [ExchangeAt, waiting, alone]
    · rfl

/-- A controller reset event leaves what is with the owners an orphan (R151). -/
theorem PortUnit.controllerReset_exchange (u : PortUnit) {x : Option Transit} (h : ExchangeAt u x) :
    ExchangeAt u.controllerReset x := by
  obtain ⟨result, executing, behind, alone, with_⟩ := h
  unfold PortUnit.controllerReset
  simp only []
  split
  · exact ⟨result, executing, behind, alone, with_⟩
  · exact ⟨result, executing, behind, alone, with_⟩
  · next phase =>
    have noResult : u.result = none := by simpa [phase] using result
    split
    · next f waiting =>
      have orphaned : u.orphan = true := behind (by rw [waiting]; rfl)
      have noFlight : u.inFlight = none := by
        cases flight : u.inFlight with
        | none => rfl
        | some g => rw [orphaned] at alone; exact absurd (alone (by rw [flight]; rfl)) nofun
      exact (exchangeAt_command rfl).mpr ⟨noResult, noFlight, rfl, by simpa [noFlight] using with_⟩
    · next waiting =>
      refine (exchangeAt_command rfl).mpr ⟨noResult, rfl, waiting, ?_⟩
      rw [with_, Bool.or_eq_true, or_comm]
  · next phase =>
    rw [phase] at executing
    simp only [reduceCtorEq, false_iff, not_or, Bool.not_eq_true, Option.isSome_eq_false_iff, Option.isNone_iff_eq_none]
      at executing
    obtain ⟨noFlight, noWaiting⟩ := executing
    exact (exchangeAt_command rfl).mpr ⟨rfl, noFlight, noWaiting, by simpa [noFlight] using with_⟩

theorem controllerResetAtPort_moves (s : State) (p : Port) : Moves i s (s.controllerResetAtPort p) :=
  (settlePort_moves s p).trans (setPort_moves fun _ => PortUnit.controllerReset_exchange _)

/-! ### The supervision unit (R156 to R164) -/

theorem setFlag_reserved (flags : BitVec 16) (f : SupFlag) :
    (flags ||| supFlagBit f) &&& 0xF800#16 = flags &&& 0xF800#16 := by
  have none_ : supFlagBit f &&& 0xF800#16 = 0 := by cases f <;> decide
  rw [BitVec.and_or_distrib_right, none_]
  simp

/-- A bad step changes standing, eligibility and at most ZERO_REACHED (R162). -/
theorem SupUnit.stepBad_eq (u : SupUnit) :
    ∃ (e : Bool) (flags : BitVec 16), flags &&& 0xF800#16 = u.flags &&& 0xF800#16
      ∧ u.stepBad = { u with standing := u.standing - u.settings.badStep, eligible := e, flags := flags } := by
  simp only [SupUnit.stepBad]
  split
  · exact ⟨_, _, setFlag_reserved u.flags .zeroReached, rfl⟩
  · exact ⟨_, u.flags, rfl, rfl⟩

theorem SupUnit.penalty_eq (u : SupUnit) (f : SupFlag) :
    ∃ (e : Bool) (flags : BitVec 16), flags &&& 0xF800#16 = u.flags &&& 0xF800#16
      ∧ (u.penalty f).unit = { u with standing := u.standing - u.settings.badStep, eligible := e, flags := flags } := by
  obtain ⟨e, flags, same, h⟩ := (u.setFlag f).stepBad_eq
  exact ⟨e, flags, same.trans (setFlag_reserved u.flags f), h⟩

/-- The part of soundness that does not speak of the state, the timer and the mark. -/
def SupUnit.InRange (u : SupUnit) : Prop :=
  u.standing ≤ 15 ∧ u.resetCount ≤ 15 ∧ u.settings.inRange = true ∧ u.challenge ≠ 0 ∧ u.flags &&& 0xF800#16 = 0

theorem SupUnit.sound_iff (u : SupUnit) :
    u.Sound ↔ u.InRange ∧ (u.windowTimer = none ↔ u.state = .idle) ∧ (u.state = .awaitAnswer → u.answerCorrect = false) := by
  simp only [SupUnit.Sound, SupUnit.InRange, and_assoc]

theorem SupUnit.penalty_inRange {u : SupUnit} (f : SupFlag) (h : u.InRange) : (u.penalty f).unit.InRange := by
  obtain ⟨standing, count, settings, challenge, flags⟩ := h
  obtain ⟨e, fl, same, eq⟩ := u.penalty_eq f
  rw [eq]
  exact ⟨(Nat.sub_le ..).trans standing, count, settings, challenge, same.trans flags⟩

theorem SupUnit.penalty_state (u : SupUnit) (f : SupFlag) : (u.penalty f).unit.state = u.state := by
  obtain ⟨e, fl, -, eq⟩ := u.penalty_eq f
  rw [eq]

theorem SupUnit.penalty_windowTimer (u : SupUnit) (f : SupFlag) : (u.penalty f).unit.windowTimer = u.windowTimer := by
  obtain ⟨e, fl, -, eq⟩ := u.penalty_eq f
  rw [eq]

theorem SupUnit.penalty_sound {u : SupUnit} (f : SupFlag) (h : u.Sound) : (u.penalty f).unit.Sound := by
  obtain ⟨range, timer, mark⟩ := (SupUnit.sound_iff u).mp h
  rw [SupUnit.sound_iff, u.penalty_state, u.penalty_windowTimer, u.penalty_answerCorrect]
  exact ⟨SupUnit.penalty_inRange f range, timer, mark⟩

theorem SupUnit.stepGood_inRange {u : SupUnit} (h : u.InRange) : u.stepGood.InRange :=
  ⟨Nat.min_le_left .., h.2⟩

theorem SupUnit.refresh_inRange {u : SupUnit} (h : u.InRange) : u.refresh.InRange := by
  obtain ⟨standing, count, settings, challenge, flags⟩ := h
  unfold SupUnit.refresh
  split
  · exact ⟨standing, count, settings, challengeAdvance_ne_zero challenge, flags⟩
  · exact ⟨standing, count, settings, challenge, flags⟩

theorem SupUnit.refresh_answerCorrect (u : SupUnit) : u.refresh.answerCorrect = false := by
  unfold SupUnit.refresh
  split
  · rfl
  · next clear => simpa using clear

/-- A fetch in turn leaves a sound unit in AWAIT_ANSWER with the mark clear (R159). -/
theorem SupUnit.refresh_await_sound {u : SupUnit} (h : u.InRange) (now : Time) : (u.refresh.await .awaitAnswer now).Sound :=
  (SupUnit.sound_iff _).mpr
    ⟨SupUnit.refresh_inRange h, ⟨nofun, nofun⟩, fun _ => u.refresh_answerCorrect⟩

theorem SupUnit.fetch_sound {u : SupUnit} (now : Time) (h : u.Sound) : (u.fetch now).unit.Sound := by
  have range := ((SupUnit.sound_iff u).mp h).1
  unfold SupUnit.fetch
  split
  · exact SupUnit.refresh_await_sound range now
  · cases u.fetchJudgement now with
    | early | late => exact SupUnit.refresh_await_sound (SupUnit.penalty_inRange _ range) now
    | inside => exact SupUnit.refresh_await_sound (SupUnit.stepGood_inRange range) now
  · next awaiting =>
    obtain ⟨range', -, mark⟩ := (SupUnit.sound_iff _).mp (SupUnit.penalty_sound .unexpected h)
    refine (SupUnit.sound_iff _).mpr ⟨range', ⟨nofun, fun idle => ?_⟩, mark⟩
    have kept := (u.penalty_state .unexpected).symm.trans idle
    rw [awaiting] at kept
    cases kept

theorem SupUnit.answerStep_inRange {u : SupUnit} (answer : BitVec 32) (now : Time) (h : u.InRange) :
    (u.answerStep answer now).unit.InRange := by
  unfold SupUnit.answerStep
  split
  · exact SupUnit.penalty_inRange _ h
  · exact SupUnit.penalty_inRange _ h
  · split
    · exact SupUnit.stepGood_inRange h
    · exact SupUnit.penalty_inRange _ h

theorem SupUnit.answer_sound {u : SupUnit} (answer : BitVec 32) (now : Time) (h : u.Sound) :
    (u.answer answer now).unit.Sound := by
  unfold SupUnit.answer
  split
  · exact (SupUnit.sound_iff _).mpr
      ⟨SupUnit.answerStep_inRange answer now ((SupUnit.sound_iff u).mp h).1, ⟨nofun, nofun⟩, nofun⟩
  · exact SupUnit.penalty_sound _ h
  · exact h

theorem SupUnit.configure_sound {u : SupUnit} {set : SupSettings} {now : Time} {e : SupEffect} (range : set.inRange = true)
    (h : u.Sound) (configured : u.configure set now = .ok e) : e.unit.Sound := by
  have ⟨standing, count, _, challenge, flags, timer, mark⟩ := h
  unfold SupUnit.configure at configured
  split_ifs at configured with idle locked same <;> cases configured
  · exact ⟨standing, count, range, challenge, flags, timer, mark⟩
  · exact h
  · exact SupUnit.penalty_sound _ ⟨standing, count, range, challenge, flags, ⟨nofun, fun is => absurd is idle⟩, mark⟩

theorem SupUnit.timeout_sound {u : SupUnit} (now : Time) (busy : u.state ≠ .idle) (h : u.Sound) :
    (u.timeout now).unit.Sound := by
  have penalty := SupUnit.penalty_sound u.timeoutFlag h
  simp only [SupUnit.timeout]
  split
  · exact penalty
  · obtain ⟨range, -, mark⟩ := (SupUnit.sound_iff _).mp penalty
    refine (SupUnit.sound_iff _).mpr ⟨range, ⟨nofun, fun idle => absurd ?_ busy⟩, mark⟩
    exact (u.penalty_state u.timeoutFlag).symm.trans idle

/-- The controller reset event leaves a sound unit (R164). -/
theorem SupEffect.final_sound {e : SupEffect} (now : Time) (h : e.unit.Sound) : (e.final now).Sound := by
  unfold SupEffect.final
  split
  · obtain ⟨standing, -, settings, challenge, flags, -, -⟩ := h
    exact ⟨standing, Nat.min_le_left .., settings, challenge, (setFlag_reserved e.unit.flags .controllerReset).trans flags,
      ⟨fun _ => rfl, fun _ => rfl⟩, nofun⟩
  · exact h

/-! ### Authority (R166, R167) -/

/-- The holder after an event of the unit of port `p`: the other port or none when the holder loses eligibility (R167). -/
def State.holderAfter (s : State) (p : Port) (after : SupUnit) : Option Port :=
  if (s.supUnit p).eligible = true ∧ after.eligible = false ∧ s.holder = some p then
    (if (s.supUnit p.other).eligible then some p.other else none)
  else s.holder

theorem holderAfter_sound (s : State) (p : Port) (after : SupUnit) (h : AuthoritySound s) :
    AuthoritySound ((s.setSup p after).setHolder (s.holderAfter p after)) := by
  intro q held
  simp only [State.holder_setHolder, State.setHolder_supUnit] at held ⊢
  unfold State.holderAfter at held
  split at held
  · split at held
    · next heir =>
      cases held
      rwa [State.supUnit_setSup_ne _ _ p.other_ne]
    · cases held
  · next kept =>
    by_cases same : q = p
    · subst same
      rw [State.supUnit_setSup_self]
      by_contra lost
      exact kept ⟨h q held, by simpa using lost, held⟩
    · rw [State.supUnit_setSup_ne _ _ same]
      exact h q held

/-- An event of a supervision unit: its unit with the holder it leaves, then posts, then the controller reset event at the port. -/
theorem supEvent_moves {p : Port} (own : i ∈ supervisionOf p) (s : State) (e : SupEffect)
    (keeps : (s.supUnit p).Sound → e.unit.Sound) : Moves i s (s.supEvent p e) := by
  have stored : Moves i s ((s.setSup p (e.final s.localTime)).setHolder (s.holderAfter p (e.final s.localTime))) :=
    (Move.supervision p own (fun sound => SupEffect.final_sound _ (keeps sound)) (holderAfter_sound s p _)).moves
  have posted : ∀ h : Option Port, h = s.holderAfter p (e.final s.localTime) →
      Moves i s ((if e.flagged || (s.supUnit p).eligible != (e.final s.localTime).eligible then
        (s.setSup p (e.final s.localTime)).postTo p (.port p) .supervision (e.final s.localTime).postValue
        else s.setSup p (e.final s.localTime)).setHolder h) := by
    rintro h rfl
    split
    · exact stored.trans (Move.postTo p (.port p) .supervision (e.final s.localTime).postValue).moves
    · exact stored
  have reset : ∀ t : State, Moves i s t → Moves i s (if e.reset then t.controllerResetAtPort p else t) := by
    intro t done
    split
    · exact done.trans (controllerResetAtPort_moves t p)
    · exact done
  unfold State.supEvent
  simp only []
  by_cases lost : ((s.supUnit p).eligible && !(e.final s.localTime).eligible && decide (s.holder = some p)) = true
  · rw [if_pos lost]
    simp only [Bool.and_eq_true, Bool.not_eq_true', decide_eq_true_eq, and_assoc] at lost
    refine reset _ (Moves.trans (posted _ ?_) (moves_post ..))
    rw [State.holderAfter, if_pos lost]
    have same : ∀ u, (if e.flagged || (s.supUnit p).eligible != (e.final s.localTime).eligible then
        (s.setSup p (e.final s.localTime)).postTo p (.port p) .supervision (e.final s.localTime).postValue
        else s.setSup p (e.final s.localTime)).supUnit u = (s.setSup p (e.final s.localTime)).supUnit u := by
      intro u
      split <;> rfl
    rw [same, State.supUnit_setSup_ne _ _ p.other_ne]
  · rw [if_neg lost]
    simp only [Bool.and_eq_true, Bool.not_eq_true', decide_eq_true_eq, and_assoc] at lost
    refine reset _ ?_
    have kept := posted s.holder (by rw [State.holderAfter, if_neg lost])
    have holder : ∀ b : Bool, (if b then (s.setSup p (e.final s.localTime)).postTo p (.port p) .supervision
        (e.final s.localTime).postValue else s.setSup p (e.final s.localTime)).setHolder s.holder =
        if b then (s.setSup p (e.final s.localTime)).postTo p (.port p) .supervision (e.final s.localTime).postValue
        else s.setSup p (e.final s.localTime) := by
      intro b
      cases b <;> rfl
    rw [holder] at kept
    exact kept

/-! ### The rules of the commands -/

/-- The parts of a chain of moves that is not a result's arrival or a release of reset leave with the owners what is there. -/
theorem Move.transit_isSome {p : Port} (arrival : i ≠ .resultArrival p) (release : i ≠ .resetNRelease) (h : Move i s t)
    (some_ : s.transit.get p ≠ none) : t.transit.get p ≠ none := by
  cases h with
  | exchange q gone keeps =>
    by_cases same : p = q
    · subst same
      simp only [State.transit_setTransit, PerPort.get_set_self]
      intro none_
      obtain was | is := gone none_
      · exact some_ was
      · exact arrival is
    · simp only [State.transit_setTransit, PerPort.get_set_ne _ _ same]
      exact some_
  | release own => exact absurd own release
  | _ => exact some_

theorem Moves.transit_isSome {p : Port} (arrival : i ≠ .resultArrival p) (release : i ≠ .resetNRelease) (h : Moves i s t)
    (some_ : s.transit.get p ≠ none) : t.transit.get p ≠ none := by
  induction h with
  | refl => exact some_
  | tail _ last ih => exact last.transit_isSome arrival release ih

/-- A command is served by the moves of its rule, and its result is on the way back. -/
theorem serve_moves {p : Port} {code : Octet} {rule : List Octet → State → State × List Octet}
    (arrival : i ≠ .resultArrival p) (release : i ≠ .resetNRelease) (s : State) (rules : ∀ ps, Moves i s (rule ps s).1) :
    Moves i s (serve p code rule s) := by
  obtain same | ⟨ps, frame, done⟩ := serve_cases p code rule s
  · rw [same]
  · rw [done]
    have still : (rule ps s).1.transit.get p ≠ none :=
      (rules ps).transit_isSome arrival release (by rw [frame]; nofun)
    refine (rules ps).trans (setTransit_moves ?_)
    obtain ⟨x, there⟩ := Option.ne_none_iff_exists'.mp still
    rw [there]
    exact fun sound => sound

theorem ruleSetTiming_moves {p : Port} (own : i = .setTiming p) (ps : List Octet) (s : State) :
    Moves i s (ruleSetTiming ps s).1 := by
  unfold ruleSetTiming
  split
  · rfl
  · next parsed => exact applySetTiming_moves own s _ (parseSetTiming_inRange parsed)

theorem ruleSetPaths_moves {p : Port} (own : i = .setPaths p) (ps : List Octet) (s : State) :
    Moves i s (ruleSetPaths ps s).1 := by
  unfold ruleSetPaths
  split
  · rfl
  · next parsed => exact applySetPaths_moves own s _ ((parseSetPaths_reads.1 ..).mp parsed).1

theorem ruleSetProbing_moves {p : Port} (own : i = .setProbing p) (ps : List Octet) (s : State) :
    Moves i s (ruleSetProbing ps s).1 := by
  unfold ruleSetProbing
  split
  · rfl
  · exact applySetProbing_moves own ..

theorem ruleSetPlayout_moves {p : Port} (own : i = .setPlayout p) (ps : List Octet) (s : State) :
    Moves i s (ruleSetPlayout ps s).1 := by
  unfold ruleSetPlayout
  split
  · rfl
  · exact CircuitMove.moves (.setPlayout own _)

theorem ruleConfigurePath_moves {p : Port} (own : i = .configurePath p) (ps : List Octet) (s : State) :
    Moves i s (ruleConfigurePath ps s).1 := by
  unfold ruleConfigurePath
  split
  · rfl
  · exact applyConfigurePath_moves own ..

theorem ruleConfigureReference_moves {p : Port} (own : i = .configureReference p) (ps : List Octet) (s : State) :
    Moves i s (ruleConfigureReference ps s).1 := by
  unfold ruleConfigureReference
  split
  · rfl
  · exact (Move.ref (.inl ⟨p, own⟩)).moves

theorem ruleReadTiming_moves (p : Port) (ps : List Octet) (s : State) : Moves i s (ruleReadTiming p ps s).1 := by
  unfold ruleReadTiming
  split
  · rfl
  · exact CircuitMove.moves (.timing ⟨.inl rfl, .inl rfl⟩)

theorem ruleReadDelay_moves (p : Port) (ps : List Octet) (s : State) : Moves i s (ruleReadDelay p ps s).1 := by
  unfold ruleReadDelay
  split
  · rfl
  · exact ProbingMove.moves (.clearMinimum p)

theorem ruleCollectAttention_moves (p : Port) (ps : List Octet) (s : State) : Moves i s (ruleCollectAttention p ps s).1 := by
  unfold ruleCollectAttention
  split
  · rfl
  · exact (Move.collect p).moves

theorem ruleOpenCircuit_moves {p : Port} (own : i = .openCircuit p) (ps : List Octet) (s : State) :
    Moves i s (ruleOpenCircuit ps s).1 := by
  unfold ruleOpenCircuit
  split
  · rfl
  · next c layout parsed =>
    obtain ⟨range, -⟩ := parseOpen_eq_ok parsed
    split_ifs with open_ inUse short
    · rfl
    · rfl
    · rfl
    · exact openCircuit_moves own s c layout range (by simpa using open_) (by simpa using inUse) (Nat.le_of_not_lt short)

theorem ruleCloseCircuit_moves (p : Port) (ps : List Octet) (s : State) : Moves i s (ruleCloseCircuit p ps s).1 := by
  unfold ruleCloseCircuit
  split
  · rfl
  · split_ifs with open_
    · exact closeCircuit_moves s p _ _ open_
    · rfl

theorem ruleHoldCircuit_moves (ps : List Octet) (s : State) : Moves i s (ruleHoldCircuit ps s).1 := by
  unfold ruleHoldCircuit
  split
  · rfl
  · split_ifs with allowed
    · exact changeTo_moves s _ (.hold allowed)
    · rfl

theorem ruleResumeCircuit_moves (ps : List Octet) (s : State) : Moves i s (ruleResumeCircuit ps s).1 := by
  unfold ruleResumeCircuit
  split
  · rfl
  · split_ifs with held
    · exact changeTo_moves s _ (.resumed _ held)
    · rfl

/-- A command that only reads. -/
theorem moves_of_fst_eq (h : t = s) : Moves i s t := by rw [h]

theorem ruleReadCircuit_fst (ps : List Octet) (s : State) : (ruleReadCircuit ps s).1 = s := by
  unfold ruleReadCircuit
  split <;> rfl

theorem ruleReadPlayout_fst (ps : List Octet) (s : State) : (ruleReadPlayout ps s).1 = s := by
  unfold ruleReadPlayout
  split <;> rfl

theorem ruleReadPaths_fst (ps : List Octet) (s : State) : (ruleReadPaths ps s).1 = s := by
  unfold ruleReadPaths
  split <;> rfl

theorem ruleReadCounters_fst (ps : List Octet) (s : State) : (ruleReadCounters ps s).1 = s := by
  unfold ruleReadCounters
  split <;> rfl

theorem ruleReadReference_fst (ps : List Octet) (s : State) : (ruleReadReference ps s).1 = s := by
  unfold ruleReadReference
  split <;> rfl

section Supervision

variable {p : Port} (ps : List Octet) (s : State)

theorem ruleFetchChallenge_moves (own : i ∈ supervisionOf p) : Moves i s (ruleFetchChallenge p ps s).1 := by
  unfold ruleFetchChallenge
  split
  · rfl
  · exact supEvent_moves own s _ (SupUnit.fetch_sound _)

theorem ruleSubmitAnswer_moves (own : i ∈ supervisionOf p) : Moves i s (ruleSubmitAnswer p ps s).1 := by
  unfold ruleSubmitAnswer
  split
  · rfl
  · split_ifs
    · rfl
    · exact supEvent_moves own s _ (SupUnit.answer_sound _ _)

theorem ruleConfigureSupervision_moves (own : i ∈ supervisionOf p) : Moves i s (ruleConfigureSupervision p ps s).1 := by
  unfold ruleConfigureSupervision
  split
  · rfl
  · next parsed =>
    obtain ⟨range, -⟩ := (parseSupervision_reads.1 ..).mp parsed
    split
    · rfl
    · next configured => exact supEvent_moves own s _ fun sound => SupUnit.configure_sound range sound configured

/-- A unit that changes in its flags or its CRST timer alone. -/
theorem setSup_moves (own : i ∈ supervisionOf p) {u : SupUnit} (eligible : u.eligible = (s.supUnit p).eligible)
    (keeps : (s.supUnit p).Sound → u.Sound) : Moves i s (s.setSup p u) := by
  refine (Move.supervision p own keeps (h := s.holder) fun sound q held => ?_).moves
  by_cases same : q = p
  · subst same
    rw [State.setHolder_supUnit, State.supUnit_setSup_self, eligible]
    exact sound q held
  · rw [State.setHolder_supUnit, State.supUnit_setSup_ne _ _ same]
    exact sound q held

theorem ruleReadSupervision_moves (own : i ∈ supervisionOf p) : Moves i s (ruleReadSupervision p ps s).1 := by
  unfold ruleReadSupervision
  split
  · rfl
  · refine setSup_moves s own rfl ?_
    rintro ⟨standing, count, settings, challenge, -, rest⟩
    exact ⟨standing, count, settings, challenge, BitVec.zero_and, rest⟩

theorem ruleTakeAuthority_moves (own : i = .takeAuthority p) : Moves i s (ruleTakeAuthority p ps s).1 := by
  unfold ruleTakeAuthority
  split
  · rfl
  · split_ifs with holds ineligible held
    · rfl
    · rfl
    · rfl
    · refine Move.moves (.authority ⟨p, .inl own⟩ ?_) |>.trans (moves_post ..)
      rintro _ ⟨⟩
      simpa using ineligible

theorem ruleYieldAuthority_moves (own : i = .yieldAuthority p) : Moves i s (ruleYieldAuthority p ps s).1 := by
  unfold ruleYieldAuthority
  split
  · rfl
  · split_ifs
    · refine Move.moves (.authority ⟨p, .inr own⟩ ?_) |>.trans (moves_post ..)
      intro q heir
      split at heir
      · next eligible =>
        cases heir
        exact eligible
      · cases heir
    · rfl

end Supervision

end Sys2Proof.Machine
end

section
/-! Every command but device reset is a chain of moves; what a chain of moves keeps, every command keeps. -/

namespace Sys2Proof.Machine

variable {i : Instr} {s t : State}

/-- A command that comes to a next state comes to it by moves. -/
def ByMoves (i : Instr) (s : State) (r : Result) : Prop := ∀ t : State, r = .next t → Moves i s t

theorem byMoves_next (h : Moves i s t) : ByMoves i s (.next t) := by
  rintro _ ⟨⟩
  exact h

theorem byMoves_serve {p : Port} {code : Octet} {rule : List Octet → State → State × List Octet}
    (arrival : i ≠ .resultArrival p) (release : i ≠ .resetNRelease) (rules : ∀ ps, Moves i s (rule ps s).1) :
    ByMoves i s (.next (serve p code rule s)) :=
  byMoves_next (serve_moves arrival release s rules)

theorem execStatusOctetSent_byMoves (p : Port) (s : State) : ByMoves i s (execStatusOctetSent p s) := by
  unfold execStatusOctetSent
  split
  · split_ifs
    · exact byMoves_next (.refl ..)
    · exact byMoves_next (setPort_moves fun _ => exchangeAt_congr rfl rfl rfl rfl rfl)
  · exact byMoves_next (.refl ..)

theorem execResultOctetSent_byMoves (p : Port) (s : State) : ByMoves i s (execResultOctetSent p s) := by
  unfold execResultOctetSent
  split
  · next pending =>
    split_ifs
    · exact byMoves_next (setPort_moves fun _ => PortUnit.resultOctetSent_exchange pending)
    · exact byMoves_next (.refl ..)
  · exact byMoves_next (.refl ..)

theorem execResultArrival_byMoves {p : Port} (own : i = .resultArrival p) (s : State) :
    ByMoves i s (execResultArrival p s) := by
  unfold execResultArrival
  split
  · exact byMoves_next (resultArrives_moves own s _)
  · exact byMoves_next (.refl ..)

theorem execOverrun_byMoves (c : CircuitId) (s : State) : ByMoves i s (execOverrun c s) := by
  unfold execOverrun
  split
  · exact byMoves_next (takeOverrun_moves ..)
  · exact byMoves_next (.refl ..)

theorem execFrameDeparture_byMoves (π : Path) (s : State) : ByMoves i s (execFrameDeparture π s) := by
  unfold execFrameDeparture
  split
  · exact byMoves_next (depart_moves ..)
  · exact byMoves_next (.refl ..)

theorem execWindowTimerExpiry_moves {p : Port} (own : i ∈ supervisionOf p) (s : State) :
    ByMoves i s (execWindowTimerExpiry p s) := by
  refine byMoves_next (moves_ite_self fun expired => supEvent_moves own s _ (SupUnit.timeout_sound _ ?_))
  simp only [SupUnit.windowExpired, Bool.and_eq_true, decide_eq_true_eq] at expired
  exact expired.1.1

/-- The CRST timer takes no part in the soundness of a unit (R164). -/
theorem execCrstTimerExpiry_moves {p : Port} (own : i ∈ supervisionOf p) (s : State) :
    ByMoves i s (execCrstTimerExpiry p s) :=
  byMoves_next (moves_ite_self fun _ => setSup_moves s own rfl id)

theorem execReceiveBitPeriod_byMoves (c : CircuitId) (mark : Bool) (s : State) :
    ByMoves i s (execReceiveBitPeriod c mark s) := by
  refine byMoves_next ?_
  split
  · exact moves_ite_self fun _ => crystalBit_moves s c
  · exact trxcEdge_moves s c mark

/-- Every command but device reset is a chain of moves. -/
theorem exec_byMoves {i : Instr} (s : State) (reset : i ≠ .deviceReset) : ByMoves i s (exec i s) := by
  cases i with
  | deviceReset => exact absurd rfl reset
  -- Ports
  | startUpEnd => exact byMoves_next (moves_ite_self fun _ => Move.endStartUp.moves)
  | resetNRelease => exact byMoves_next (moves_ite_self fun _ => (Move.release rfl).moves)
  | transactionStart p => exact byMoves_next ((settlePort_moves s p).trans (startTransaction_moves ..))
  | transactionEnd p => exact byMoves_next ((settlePort_moves s p).trans (endTransaction_moves ..))
  | writtenOctet p o => exact byMoves_next ((settlePort_moves s p).trans (inputOctet_moves ..))
  | commandFrameComplete p => exact byMoves_next (settlePort_moves s p)
  | statusOctetSent p => exact execStatusOctetSent_byMoves p s
  | resultOctetSent p => exact execResultOctetSent_byMoves p s
  | resultArrival p => exact execResultArrival_byMoves rfl s
  -- Supervision, authority and attention
  | fetchChallenge p => exact byMoves_serve nofun nofun fun ps => ruleFetchChallenge_moves ps s (by simp [supervisionOf])
  | submitAnswer p => exact byMoves_serve nofun nofun fun ps => ruleSubmitAnswer_moves ps s (by simp [supervisionOf])
  | readSupervision p => exact byMoves_serve nofun nofun fun ps => ruleReadSupervision_moves ps s (by simp [supervisionOf])
  | configureSupervision p =>
    exact byMoves_serve nofun nofun fun ps => ruleConfigureSupervision_moves ps s (by simp [supervisionOf])
  | windowTimerExpiry p => exact execWindowTimerExpiry_moves (by simp [supervisionOf]) s
  | crstTimerExpiry p => exact execCrstTimerExpiry_moves (by simp [supervisionOf]) s
  | takeAuthority p => exact byMoves_serve nofun nofun fun ps => ruleTakeAuthority_moves ps s rfl
  | yieldAuthority p => exact byMoves_serve nofun nofun fun ps => ruleYieldAuthority_moves ps s rfl
  | collectAttention p => exact byMoves_serve nofun nofun fun ps => ruleCollectAttention_moves p ps s
  | readCounters p => exact byMoves_serve nofun nofun fun ps => moves_of_fst_eq (ruleReadCounters_fst ps s)
  -- The circuit table
  | openCircuit p => exact byMoves_serve nofun nofun fun ps => ruleOpenCircuit_moves rfl ps s
  | closeCircuit p => exact byMoves_serve nofun nofun fun ps => ruleCloseCircuit_moves p ps s
  | holdCircuit p => exact byMoves_serve nofun nofun fun ps => ruleHoldCircuit_moves ps s
  | resumeCircuit p => exact byMoves_serve nofun nofun fun ps => ruleResumeCircuit_moves ps s
  | readCircuit p => exact byMoves_serve nofun nofun fun ps => moves_of_fst_eq (ruleReadCircuit_fst ps s)
  | acquisitionComplete c => exact byMoves_next (moves_ite_self fun complete => takeAcquisitionComplete_moves s c complete)
  | underrun c => exact byMoves_next (settleUnderrun_moves s c)
  | overrun c => exact execOverrun_byMoves c s
  | drainComplete c => exact byMoves_next (moves_ite_self fun _ => takeDrainComplete_moves s c)
  | drainLimitExpiry c =>
    refine byMoves_next (moves_ite_self fun expired => enterClosed_moves s c ?_)
    simp only [Circuit.drainExpired, Bool.and_eq_true, decide_eq_true_eq] at expired
    simp [Circuit.isOpen, expired.1]
  | acquisitionTimerExpiry c => exact byMoves_next (moves_ite_self fun due => acqTimerExpiry_moves s c due)
  -- The settings of a circuit and their reads
  | setTiming p => exact byMoves_serve nofun nofun fun ps => ruleSetTiming_moves rfl ps s
  | setPaths p => exact byMoves_serve nofun nofun fun ps => ruleSetPaths_moves rfl ps s
  | setProbing p => exact byMoves_serve nofun nofun fun ps => ruleSetProbing_moves rfl ps s
  | setPlayout p => exact byMoves_serve nofun nofun fun ps => ruleSetPlayout_moves rfl ps s
  | readPlayout p => exact byMoves_serve nofun nofun fun ps => moves_of_fst_eq (ruleReadPlayout_fst ps s)
  | readTiming p => exact byMoves_serve nofun nofun fun ps => ruleReadTiming_moves p ps s
  | readPaths p => exact byMoves_serve nofun nofun fun ps => moves_of_fst_eq (ruleReadPaths_fst ps s)
  | readDelay p => exact byMoves_serve nofun nofun fun ps => ruleReadDelay_moves p ps s
  -- The reference monitor and the path units
  | configureReference p => exact byMoves_serve nofun nofun fun ps => ruleConfigureReference_moves rfl ps s
  | readReference p => exact byMoves_serve nofun nofun fun ps => moves_of_fst_eq (ruleReadReference_fst ps s)
  | configurePath p => exact byMoves_serve nofun nofun fun ps => ruleConfigurePath_moves rfl ps s
  | referenceWindowStart => exact byMoves_next (risingEdge_moves s)
  | refEdge => exact byMoves_next (risingEdge_moves s)
  | referenceWindowCompletion => exact byMoves_next (settleWindow_moves s)
  | absenceExpiry => exact byMoves_next (moves_ite_self fun _ => absenceExpiry_moves s)
  | linkEvent π up => exact byMoves_next (linkEvent_moves s π up)
  | frameDeparture π => exact execFrameDeparture_byMoves π s
  | frameReceived π octets => exact byMoves_next (receiveFrame_moves s π octets)
  | probeTimerExpiry c => exact byMoves_next (moves_ite_self fun _ => probeTimerExpiry_moves s c)
  -- The lines
  | receiveBitPeriod c mark => exact execReceiveBitPeriod_byMoves c mark s
  | receiveClockLoss c => exact byMoves_next (settleClockLoss_moves s c)
  | receiveClockReturn c mark => exact byMoves_next (trxcEdge_moves s c mark)
  | losSet c => exact byMoves_next (moves_ite_self fun due => lineStep_moves s c .losSet due)
  | losClear c => exact byMoves_next (moves_ite_self fun due => lineStep_moves s c .losClear due)
  | aisSpanEnd c => exact byMoves_next (moves_ite_self fun due => lineStep_moves s c .aisSpanEnd due)
  | framerSearchOctet c => exact byMoves_next (moves_ite_self fun due => lineStep_moves s c .search due)
  | framerVerifyTest c => exact byMoves_next (moves_ite_self fun due => lineStep_moves s c .verify due)
  | framerAlignedCompare c => exact byMoves_next (moves_ite_self fun due => lineStep_moves s c .compare due)
  | lossOfAlignment c => exact byMoves_next (moves_ite_self fun due => lineStep_moves s c .lossOfAlignment due)
  | receiveFrameBoundary c => exact byMoves_next (moves_ite_self fun due => lineStep_moves s c .boundary due)
  | transmitFrameBoundary c => exact byMoves_next (moves_ite_self fun _ => transmitBoundary_moves s c)

/-! ### Invariants -/

/-- What every move keeps, a chain of them keeps. -/
theorem Moves.keeps {holds : State → Prop} (moves : ∀ s t, Move i s t → holds s → holds t) (h : Moves i s t) (at_s : holds s) :
    holds t := by
  induction h with
  | refl => exact at_s
  | tail _ last ih => exact moves _ _ last ih

/-- An invariant of the part: it looks neither at the queue of commands nor at the count of free choices, and device reset brings it
about, every move keeps it, and so does the passing of local time. -/
structure KeptBySteps (holds : State → Prop) : Prop where
  bookkeeping : ∀ (s : State) (rest : List Instr) (n : Nat), holds s → holds { s with pending := rest, freeCount := n }
  reset : ∀ links : PerPath Bool, holds (State.resetWith links)
  moves : ∀ (i : Instr) (s t : State), Move i s t → holds s → holds t
  tick : ∀ s : State, holds s → holds s.tick

theorem KeptBySteps.exec {holds : State → Prop} (kept : KeptBySteps holds) (h : exec i s = .next t) (at_s : holds s) : holds t := by
  by_cases reset : i = .deviceReset
  · subst reset
    cases h
    exact kept.bookkeeping _ _ _ (kept.reset _)
  · exact (exec_byMoves s reset t h).keeps (kept.moves i) at_s

/-- A step is a command on the state but for its bookkeeping, or the passing of one unit of local time (assumption 1). -/
theorem step_cases (h : step s = .next t) :
    t = s.tick ∨ ∃ (i : Instr) (rest : List Instr) (n : Nat), exec i { s with pending := rest, freeCount := n } = .next t := by
  unfold step at h
  split at h
  · exact .inr ⟨_, _, s.freeCount, h⟩
  · split at h
    · next due =>
      unfold State.nextDue at due
      split at due <;> cases due
      · exact .inr ⟨_, s.pending, s.freeCount, h⟩
      · exact .inr ⟨_, s.pending, s.freeCount + 1, h⟩
    · cases h
      exact .inl rfl

theorem KeptBySteps.step {holds : State → Prop} (kept : KeptBySteps holds) (h : step s = .next t) (at_s : holds s) : holds t := by
  obtain rfl | ⟨i, rest, n, done⟩ := step_cases h
  · exact kept.tick s at_s
  · exact kept.exec done (kept.bookkeeping s rest n at_s)

end Sys2Proof.Machine
end

section
/-! What the steps keep of the circuit table and of the controller side. -/

namespace Sys2Proof.Machine

variable {i : Instr} {s t : State}

/-! ### A circuit before and after a move -/

/-- A circuit is as it was, moved on its own, was closed or was opened. -/
inductive CircuitChange (i : Instr) (v : Circuit) : Circuit → Prop
  | same : CircuitChange i v v
  | move {w : Circuit} (move : CircuitMove i v w) : CircuitChange i v w
  | closed (open_ : v.isOpen = true) : CircuitChange i v v.intoClosed
  | opened {p : Port} (own : i = .openCircuit p) (l : Layout) (now : Time) (range : l.wellFormed = true)
      (closed : v.isOpen = false) : CircuitChange i v (v.opened l now)

theorem circuitChange_setCircuit {c : CircuitId} {w : Circuit} (change : CircuitChange i (s.circuit c) w) (d : CircuitId) :
    CircuitChange i (s.circuit d) ((s.setCircuit c w).circuit d) := by
  by_cases same : d = c
  · subst same
    rwa [State.circuit_setCircuit_self]
  · rw [State.circuit_setCircuit_ne _ _ same]
    exact .same

theorem Move.circuitChange (h : Move i s t) (d : CircuitId) : CircuitChange i (s.circuit d) (t.circuit d) := by
  cases h with
  | circuit c move => exact circuitChange_setCircuit (.move move) d
  | close c open_ => exact circuitChange_setCircuit (.closed open_) d
  | open_ p own c l now range closed => exact circuitChange_setCircuit (.opened own l now range closed) d
  | _ => exact .same

theorem State.tick_circuit (s : State) (c : CircuitId) :
    s.tick.circuit c = { s.circuit c with line := (s.circuit c).line.tick } := by
  simp [State.tick, State.circuit]

theorem resetWith_circuit (links : PerPath Bool) (c : CircuitId) : (State.resetWith links).circuit c = .reset := by
  simp [State.circuit, State.resetWith]

/-- What a predicate of one circuit needs for every step to keep it at every circuit. -/
structure KeptByCircuits (holds : Circuit → Prop) : Prop where
  reset : holds .reset
  move : ∀ (i : Instr) (v w : Circuit), CircuitMove i v w → holds v → holds w
  closed : ∀ v : Circuit, v.isOpen = true → holds v → holds v.intoClosed
  opened : ∀ (v : Circuit) (l : Layout) (now : Time), v.isOpen = false → l.wellFormed = true → holds v → holds (v.opened l now)
  tick : ∀ v : Circuit, holds v → holds { v with line := v.line.tick }

theorem KeptByCircuits.keptBySteps {holds : Circuit → Prop} (kept : KeptByCircuits holds) :
    KeptBySteps fun s => ∀ c : CircuitId, holds (s.circuit c) where
  bookkeeping _ _ _ at_s := at_s
  reset links c := by
    rw [resetWith_circuit]
    exact kept.reset
  moves i s t move at_s c := by
    have change := move.circuitChange c
    generalize t.circuit c = w at change
    cases change with
    | same => exact at_s c
    | move move => exact kept.move i _ _ move (at_s c)
    | closed open_ => exact kept.closed _ open_ (at_s c)
    | opened own l now range closed => exact kept.opened _ l now closed range (at_s c)
  tick s at_s c := by
    rw [State.tick_circuit]
    exact kept.tick _ (at_s c)

/-! ### The circuit table and the pool (R1, R10, R13) -/

/-- What the table holds of a circuit outside an opening and a closing: its layout, its blocks and whether it is open. -/
def Circuit.SameEntry (v w : Circuit) : Prop := w.layout = v.layout ∧ w.blocksHeld = v.blocksHeld ∧ w.isOpen = v.isOpen

theorem isOpen_iff (v : Circuit) : v.isOpen = true ↔ v.state ≠ .closed := by simp [Circuit.isOpen]

theorem isOpen_eq_false_iff (v : Circuit) : v.isOpen = false ↔ v.state = .closed := by simp [Circuit.isOpen]

theorem isOpen_of_state {v : Circuit} {x : CState} (state : v.state = x) (open_ : x ≠ .closed) : v.isOpen = true :=
  (isOpen_iff v).mpr (state ▸ open_)

theorem isOpen_of_holdAllowed {v : Circuit} (h : v.holdAllowed = true) : v.isOpen = true := by
  simp only [Circuit.holdAllowed, Bool.or_eq_true, Bool.and_eq_true, decide_eq_true_eq] at h
  rcases h with running | ⟨acquiring, -⟩
  · exact isOpen_of_state running nofun
  · exact isOpen_of_state acquiring nofun

/-- What a move of the playout unit writes: ring, cursor, requests and counters. -/
theorem PlayoutMove.eq {v w : Circuit} (h : PlayoutMove v w) :
    ∃ (ring : List RingSlot) (cursor : Cursor) (requests : Requests) (cp : PerPath CpCounters) (k : CircuitCounters),
      w = { v with ring := ring, cursor := cursor, requests := requests, cpCounters := cp, counters := k } := by
  cases h with
  | duplicate =>
    unfold Circuit.duplicate
    dsimp only
    split <;> exact ⟨_, _, _, _, _, rfl⟩
  | early =>
    unfold Circuit.earlyArrival
    dsimp only
    split
    · split <;> exact ⟨_, _, _, _, _, rfl⟩
    · exact ⟨_, _, _, _, _, rfl⟩
  | take =>
    unfold Circuit.takeHead
    dsimp only
    split <;> exact ⟨_, _, _, _, _, rfl⟩
  | free =>
    unfold Circuit.freeIfLast
    dsimp only
    split <;> exact ⟨_, _, _, _, _, rfl⟩
  | _ => exact ⟨_, _, _, _, _, rfl⟩

theorem CircuitMove.sameEntry {v w : Circuit} (h : CircuitMove i v w) : v.SameEntry w := by
  cases h with
  | playout move =>
    obtain ⟨_, _, _, _, _, rfl⟩ := move.eq
    exact ⟨rfl, rfl, rfl⟩
  | acquiring now running => exact ⟨rfl, rfl, (isOpen_of_state running nofun).symm⟩
  | running acquiring => exact ⟨rfl, rfl, (isOpen_of_state acquiring nofun).symm⟩
  | hold allowed => exact ⟨rfl, rfl, (isOpen_of_holdAllowed allowed).symm⟩
  | resumed now held => exact ⟨rfl, rfl, (isOpen_of_state held nofun).symm⟩
  | closing limit open_ => exact ⟨rfl, rfl, open_.symm⟩
  | _ => exact ⟨rfl, rfl, rfl⟩

theorem allCircuits_sum (f : CircuitId → Nat) : (allCircuits.map f).sum = ∑ c : CircuitId, f c := Fin.sum_univ_def f |>.symm

/-- Where only one circuit's share changes, the two sums differ as its shares do. -/
theorem allCircuits_sum_of_ne {f g : CircuitId → Nat} (c : CircuitId) (same : ∀ d : CircuitId, d ≠ c → g d = f d) :
    (allCircuits.map g).sum + f c = (allCircuits.map f).sum + g c := by
  have rest : ∑ d ∈ Finset.univ.erase c, g d = ∑ d ∈ Finset.univ.erase c, f d :=
    Finset.sum_congr rfl fun d other => same d (Finset.ne_of_mem_erase other)
  rw [allCircuits_sum, allCircuits_sum, ← Finset.add_sum_erase _ f (Finset.mem_univ c),
    ← Finset.add_sum_erase _ g (Finset.mem_univ c), rest]
  omega

theorem blocks_setCircuit (s : State) (c : CircuitId) (v : Circuit) :
    (allCircuits.map fun d => ((s.setCircuit c v).circuit d).blocksHeld).sum + (s.circuit c).blocksHeld
      = (allCircuits.map fun d => (s.circuit d).blocksHeld).sum + v.blocksHeld := by
  have sums := allCircuits_sum_of_ne (f := fun d => (s.circuit d).blocksHeld)
    (g := fun d => ((s.setCircuit c v).circuit d).blocksHeld) c
    fun d other => congrArg Circuit.blocksHeld (State.circuit_setCircuit_ne s v other)
  simpa only [State.circuit_setCircuit_self] using sums

/-- A predicate of one circuit after one circuit was replaced. -/
theorem everywhere_setCircuit (holds : Circuit → Prop) {c : CircuitId} {v : Circuit} (h : ∀ d, holds (s.circuit d)) (new : holds v)
    (d : CircuitId) : holds ((s.setCircuit c v).circuit d) := by
  by_cases same : d = c
  · subst same
    rwa [State.circuit_setCircuit_self]
  · rw [State.circuit_setCircuit_ne _ _ same]
    exact h d

theorem Move.keeps_pool (h : Move i s t) (sound : PoolSound s) : PoolSound t := by
  obtain ⟨whole, none_⟩ := sound
  cases h with
  | circuit c move =>
    obtain ⟨-, blocks, open_⟩ := move.sameEntry
    refine ⟨?_, everywhere_setCircuit (fun v => v.state = .closed → v.blocksHeld = 0) none_ fun closed => ?_⟩
    · have sums := blocks_setCircuit s c ‹_›
      rw [blocks] at sums
      exact (congrArg (s.freeBlocks + ·) (Nat.add_right_cancel sums)).trans whole
    · rw [blocks]
      rw [← isOpen_eq_false_iff, open_, isOpen_eq_false_iff] at closed
      exact none_ c closed
  | close c open_ =>
    refine ⟨?_, everywhere_setCircuit (fun v => v.state = .closed → v.blocksHeld = 0) none_ fun _ => rfl⟩
    have sums := blocks_setCircuit s c (s.circuit c).intoClosed
    have zero : (s.circuit c).intoClosed.blocksHeld = 0 := rfl
    simp only [State.freeBlocks_setFreeBlocks, State.setFreeBlocks_circuit]
    omega
  | open_ p own c l now range closed free space =>
    refine ⟨?_, everywhere_setCircuit (fun v => v.state = .closed → v.blocksHeld = 0) none_ nofun⟩
    have sums := blocks_setCircuit s c ((s.circuit c).opened l now)
    have needed : ((s.circuit c).opened l now).blocksHeld = l.neededBlocks := rfl
    have zero := none_ c ((isOpen_eq_false_iff _).mp closed)
    simp only [State.freeBlocks_setFreeBlocks, State.setFreeBlocks_circuit]
    omega
  | _ => exact ⟨whole, none_⟩

theorem poolSound_keptBySteps : KeptBySteps PoolSound where
  bookkeeping _ _ _ sound := sound
  reset links := by
    simp only [PoolSound, resetWith_circuit]
    exact ⟨rfl, fun _ _ => rfl⟩
  moves _ _ _ := Move.keeps_pool
  tick s sound := by
    simp only [PoolSound, State.tick_circuit]
    exact sound

/-- The layouts and tags of a table whose circuits all have the same entries are as sound. -/
theorem LayoutsSound.of_sameEntry (sound : LayoutsSound s) (same : ∀ c, (s.circuit c).SameEntry (t.circuit c)) : LayoutsSound t := by
  have layout : ∀ c, (t.circuit c).layout = (s.circuit c).layout := fun c => (same c).1
  have layoutD : ∀ c, (t.circuit c).layoutD = (s.circuit c).layoutD := fun c => by rw [Circuit.layoutD, layout c]; rfl
  have state : ∀ c, (t.circuit c).state ≠ .closed ↔ (s.circuit c).state ≠ .closed := fun c => by
    rw [← isOpen_iff, ← isOpen_iff, (same c).2.2]
  simpa only [LayoutsSound, layout, layoutD, state] using sound

theorem tagInUse_eq_false_iff (s : State) (c : CircuitId) (tag : Nat) :
    s.tagInUse c tag = false ↔ ∀ d : CircuitId, d ≠ c → (s.circuit d).state ≠ .closed → (s.circuit d).layoutD.remoteTag ≠ tag := by
  simp only [State.tagInUse, allCircuits, List.any_eq_false, List.mem_finRange, forall_const, Bool.and_eq_true, bne_iff_ne,
    isOpen_iff, decide_eq_true_eq, not_and, and_imp]

theorem Move.keeps_layouts (h : Move i s t) (sound : LayoutsSound s) : LayoutsSound t := by
  cases h with
  | circuit c move =>
    refine sound.of_sameEntry fun d => ?_
    by_cases same : d = c
    · subst same
      rw [State.circuit_setCircuit_self]
      exact move.sameEntry
    · rw [State.circuit_setCircuit_ne _ _ same]
      exact ⟨rfl, rfl, rfl⟩
  | close c open_ =>
    obtain ⟨ranges, present, tags⟩ := sound
    have closed : ∀ d, (((s.setCircuit c (s.circuit c).intoClosed).circuit d).state ≠ .closed → d ≠ c) := by
      rintro d stays rfl
      exact stays (by rw [State.circuit_setCircuit_self]; rfl)
    refine ⟨everywhere_setCircuit (fun v => ∀ l : Layout, v.layout = some l → l.wellFormed = true) ranges (ranges c), 
      everywhere_setCircuit (fun v => v.state ≠ .closed → v.layout.isSome = true) present fun open_ => absurd rfl open_, ?_⟩
    intro d e opd ope
    have opd' := opd
    have ope' := ope
    simp only [State.setFreeBlocks_circuit] at opd ope ⊢
    rw [State.circuit_setCircuit_ne _ _ (closed d opd')] at opd ⊢
    rw [State.circuit_setCircuit_ne _ _ (closed e ope')] at ope ⊢
    exact tags d e opd ope
  | open_ p own c l now range closed free space =>
    obtain ⟨ranges, present, tags⟩ := sound
    rw [tagInUse_eq_false_iff] at free
    refine ⟨everywhere_setCircuit (fun v => ∀ l : Layout, v.layout = some l → l.wellFormed = true) ranges ?_,
      everywhere_setCircuit (fun v => v.state ≠ .closed → v.layout.isSome = true) present fun _ => rfl, ?_⟩
    · rintro _ ⟨⟩
      exact range
    intro d e opd ope equal
    simp only [State.setFreeBlocks_circuit] at opd ope equal
    have tag : ((s.circuit c).opened l now).layoutD.remoteTag = l.remoteTag := rfl
    by_cases hd : d = c <;> by_cases he : e = c
    · exact hd.trans he.symm
    · subst hd
      rw [State.circuit_setCircuit_ne _ _ he] at ope equal
      rw [State.circuit_setCircuit_self, tag] at equal
      exact absurd equal.symm (free e he ope)
    · subst he
      rw [State.circuit_setCircuit_ne _ _ hd] at opd equal
      rw [State.circuit_setCircuit_self, tag] at equal
      exact absurd equal (free d hd opd)
    · rw [State.circuit_setCircuit_ne _ _ hd] at opd equal
      rw [State.circuit_setCircuit_ne _ _ he] at ope equal
      exact tags d e opd ope equal
  | _ => exact sound

theorem layoutsSound_keptBySteps : KeptBySteps LayoutsSound where
  bookkeeping _ _ _ sound := sound
  reset links := by
    simp only [LayoutsSound, resetWith_circuit]
    exact ⟨nofun, fun _ open_ => absurd rfl open_, fun _ _ open_ => absurd rfl open_⟩
  moves _ _ _ := Move.keeps_layouts
  tick s sound := sound.of_sameEntry fun c => by rw [State.tick_circuit]; exact ⟨rfl, rfl, rfl⟩

/-- Settles O56: every move of a circuit keeps its table entry, an opening takes from the pool what the circuit then holds, and a closing
returns it. -/
theorem everyStepKeepsTheTable : Obligations.EveryStepKeepsTheTable :=
  fun _ _ done => ⟨poolSound_keptBySteps.step done, layoutsSound_keptBySteps.step done⟩

/-! ### Attention (R169, R170) -/

/-- What `AttentionSound` says of one queue. -/
def AttnQueueSound (queue : List AttnRecord) : Prop :=
  queue.length ≤ 48 ∧ queue.Pairwise (fun a b => ¬(a.source = b.source ∧ a.kind = b.kind))
    ∧ ∀ r ∈ queue, 1 ≤ r.count ∧ r.count ≤ 255

theorem AttnQueueSound.take {u : AttnUnit} (sound : AttnQueueSound u.queue) (src : Source) (kind : AttnKind) (value : BitVec 16)
    (now : Time) : AttnQueueSound (u.take src kind value now).queue := by
  obtain ⟨length, distinct, counts⟩ := sound
  by_cases known : ∃ r ∈ u.queue, r.source = src ∧ r.kind = kind
  · rw [AttnUnit.take_merge _ _ _ _ _ known]
    have same : ∀ r : AttnRecord, (if r.isOf src kind then r.merge value else r).source = r.source
        ∧ (if r.isOf src kind then r.merge value else r).kind = r.kind := fun r => by split <;> exact ⟨rfl, rfl⟩
    refine ⟨by simpa using length, ?_, ?_⟩
    · rw [List.pairwise_map]
      simpa only [same] using distinct
    · intro r member
      obtain ⟨old, there, rfl⟩ := List.mem_map.mp member
      have := counts old there
      split
      · simp only [AttnRecord.merge]
        omega
      · exact this
  · have fresh : ∀ r ∈ u.queue, ¬(r.source = src ∧ r.kind = kind) := fun r there is => known ⟨r, there, is⟩
    rw [AttnUnit.take_new _ _ _ _ _ fresh]
    split
    · exact ⟨length, distinct, counts⟩
    · next room =>
      refine ⟨by simp only [List.length_append, List.length_singleton]; omega, ?_, ?_⟩
      · rw [List.pairwise_append]
        exact ⟨distinct, List.pairwise_singleton .., fun r there n new => List.mem_singleton.mp new ▸ fresh r there⟩
      · intro r member
        rcases List.mem_append.mp member with there | new
        · exact counts r there
        · rw [List.mem_singleton.mp new]
          exact ⟨Nat.le_refl 1, Nat.le_add_left 1 254⟩

theorem AttnQueueSound.drop {queue : List AttnRecord} (sound : AttnQueueSound queue) (n : Nat) : AttnQueueSound (queue.drop n) := by
  obtain ⟨length, distinct, counts⟩ := sound
  refine ⟨by rw [List.length_drop]; omega, distinct.sublist (List.drop_sublist ..), fun r there => counts r (List.mem_of_mem_drop there)⟩

theorem attentionSound_iff (s : State) : AttentionSound s ↔ ∀ p, AttnQueueSound (s.attnUnit p).queue := Iff.rfl

theorem AttentionSound.setAttn {u : AttnUnit} (sound : AttentionSound s) (p : Port) (new : AttnQueueSound u.queue) :
    AttentionSound (s.setAttn p u) := by
  rw [attentionSound_iff] at sound ⊢
  intro q
  by_cases same : q = p
  · subst same
    rwa [State.attnUnit_setAttn_self]
  · rw [State.attnUnit_setAttn_ne _ _ same]
    exact sound q

theorem Move.keeps_attention (h : Move i s t) (sound : AttentionSound s) : AttentionSound t := by
  cases h with
  | postTo p src kind value => exact sound.setAttn p (((attentionSound_iff s).mp sound p).take ..)
  | collect p => exact sound.setAttn p (((attentionSound_iff s).mp sound p).drop 8)
  | _ => exact sound

theorem attentionSound_keptBySteps : KeptBySteps AttentionSound where
  bookkeeping _ _ _ sound := sound
  reset _ p := by cases p <;> exact ⟨Nat.zero_le _, .nil, nofun⟩
  moves _ _ _ := Move.keeps_attention
  tick _ sound := sound

/-! ### Authority and supervision (section 10.1, R166, R167) -/

theorem authoritySound_keptBySteps : KeptBySteps AuthoritySound where
  bookkeeping _ _ _ sound := sound
  reset _ _ held := nomatch held
  moves _ _ _ move sound := by
    cases move with
    | supervision p own keeps authority => exact authority sound
    | authority own eligible => exact eligible
    | _ => exact sound
  tick _ sound := sound

theorem SupUnit.reset_sound {seed : BitVec 16} (nonzero : seed ≠ 0) : (SupUnit.reset seed).Sound :=
  ⟨Nat.le_add_left 5 10, Nat.zero_le 15, rfl, nonzero, BitVec.zero_and, Iff.intro (fun _ => rfl) (fun _ => rfl), nofun⟩

theorem supervisionSound_keptBySteps : KeptBySteps SupervisionSound where
  bookkeeping _ _ _ sound := sound
  reset _ p := by
    cases p
    · exact SupUnit.reset_sound (by decide)
    · exact SupUnit.reset_sound (by decide)
  moves _ s _ move sound := by
    cases move with
    | supervision p own keeps =>
      rw [supervisionSound_iff] at sound ⊢
      intro q
      by_cases same : q = p
      · subst same
        simpa only [State.setHolder_supUnit, State.supUnit_setSup_self] using keeps (sound q)
      · simpa only [State.setHolder_supUnit, State.supUnit_setSup_ne _ _ same] using sound q
    | _ => exact sound
  tick _ sound := sound

/-! ### The exchange at the ports (R144, R147, R150 to R152) -/

theorem exchangeAt_endStartUp {u : PortUnit} {x : Option Transit} (h : ExchangeAt u x) : ExchangeAt u.endStartUp x := by
  unfold PortUnit.endStartUp
  split
  · next phase =>
    unfold ExchangeAt at h ⊢
    rw [phase] at h
    simpa using h
  · exact h

theorem exchangeAt_reset : ExchangeAt .reset none := by simp [ExchangeAt, PortUnit.reset]

theorem exchangeSound_keptBySteps : KeptBySteps ExchangeSound where
  bookkeeping _ _ _ sound := sound
  reset _ p := by cases p <;> exact exchangeAt_reset
  moves _ s _ move sound := by
    rw [exchangeSound_iff] at sound ⊢
    cases move with
    | exchange p gone keeps =>
      intro q
      by_cases same : q = p
      · subst same
        simpa using keeps (sound q)
      · simpa only [State.setTransit_port, State.port_setPort_ne _ _ same, State.transit_setTransit, State.setPort_transit,
          PerPort.get_set_ne _ _ same] using sound q
    | endStartUp =>
      intro q
      cases q with
      | cp0 => exact exchangeAt_endStartUp (sound .cp0)
      | cp1 => exact exchangeAt_endStartUp (sound .cp1)
    | release =>
      intro q
      cases q <;> exact exchangeAt_reset
    | _ => exact sound
  tick _ sound := sound

/-- Settles O57: posts and collections keep the queues, the supervision events their unit and the holder, and what a port takes, hands on or
gets back its exchange. -/
theorem everyStepKeepsTheControllerSide : Obligations.EveryStepKeepsTheControllerSide :=
  fun _ _ done => ⟨attentionSound_keptBySteps.step done, authoritySound_keptBySteps.step done,
    supervisionSound_keptBySteps.step done, exchangeSound_keptBySteps.step done⟩

end Sys2Proof.Machine
end

section
/-! What the steps keep of the network side: transmit queues, health counts, probe lists and delay records, I and C. -/

namespace Sys2Proof.Machine

variable {i : Instr} {s t : State}

/-! ### Values of two paths -/

theorem PerPath.set_keeps {α : Type} {holds : α → Prop} {v : PerPath α} {π : Path} {a : α} (ρ : Path) (old : holds (v.get ρ))
    (new : ρ = π → holds a) : holds ((v.set π a).get ρ) := by
  by_cases same : ρ = π
  · subst same
    rw [PerPath.get_set_self]
    exact new rfl
  · rwa [PerPath.get_set_ne _ _ same]

/-! ### Transmit queues (R58, R59) -/

/-- What `QueuesSound` says of one path. -/
def PathUnit.QueueSound (u : PathUnit) : Prop := u.queue.length ≤ 64 ∧ (u.linkUp = false → u.queue = [])

theorem queuesSound_iff (s : State) : QueuesSound s ↔ ∀ π, (s.pathUnit π).QueueSound := Iff.rfl

theorem PathMove.keeps_queue {u w : PathUnit} (h : PathMove i u w) (sound : u.QueueSound) : w.QueueSound := by
  obtain ⟨length, down⟩ := sound
  cases h with
  | link up =>
    cases up with
    | true => exact ⟨length, nofun⟩
    | false => exact ⟨Nat.zero_le _, fun _ => rfl⟩
  | append e up room =>
    refine ⟨by simp only [List.length_append, List.length_singleton]; omega, fun is => ?_⟩
    exact absurd (up.symm.trans is) (by decide)
  | depart frame => exact ⟨by simp only [PathUnit.departed, List.length_drop]; omega, fun is => by simp [PathUnit.departed, down is]⟩
  | flush => exact ⟨Nat.zero_le _, fun _ => rfl⟩
  | _ => exact ⟨length, down⟩

theorem queuesSound_keptBySteps : KeptBySteps QueuesSound where
  bookkeeping _ _ _ sound := sound
  reset _ π := by cases π <;> exact ⟨Nat.zero_le _, fun _ => rfl⟩
  moves _ s _ move sound := by
    rw [queuesSound_iff] at sound ⊢
    cases move with
    | path π move => exact fun ρ => PerPath.set_keeps (holds := PathUnit.QueueSound) ρ (sound ρ) fun _ => move.keeps_queue (sound π)
    | _ => exact sound
  tick _ sound π := by
    cases π with
    | x => exact sound .x
    | y => exact sound .y

/-! ### Path health (R66, R69) -/

/-- What `HealthSound` says of one circuit. -/
def Circuit.HealthSound (v : Circuit) : Prop := ∀ π : Path, v.health.count.get π ≤ 15 ∧ v.pathSet.inRange = true

theorem stepCount_le {set : PathSettings} {good : Bool} {count : Nat} (h : count ≤ 15) : stepCount set good count ≤ 15 := by
  unfold stepCount
  split <;> omega

theorem healthSound_keptByCircuits : KeptByCircuits Circuit.HealthSound where
  reset π := by cases π <;> exact ⟨by decide, by decide⟩
  move _ v _ move sound := by
    cases move with
    | healthStep π good degraded =>
      exact fun ρ => ⟨PerPath.set_keeps (holds := (· ≤ 15)) ρ (sound ρ).1 fun _ => stepCount_le (sound π).1, (sound ρ).2⟩
    | setPaths own set active range => exact fun ρ => ⟨(sound ρ).1, range⟩
    | playout move =>
      obtain ⟨_, _, _, _, _, rfl⟩ := move.eq
      exact sound
    | _ => exact sound
  closed _ _ sound := sound
  opened v _ _ _ _ sound π := by
    have range := (sound π).2
    obtain ⟨-, -, -, -, highRange⟩ := (PathSettings.inRange_iff v.pathSet).mp range
    have high : v.pathSet.high ≤ 15 := ((within_iff ..).mp highRange).2
    cases π <;> exact ⟨high, range⟩
  tick _ sound := sound

theorem healthSound_keptBySteps : KeptBySteps HealthSound := healthSound_keptByCircuits.keptBySteps

/-! ### Timing (R101, R115) -/

/-- What `TimingSound` says of one circuit. -/
def Circuit.TimingSound (v : Circuit) : Prop :=
  v.timingSet.inRange = true ∧ v.timing.i.natAbs ≤ v.timingSet.lim ∧ v.timing.c.natAbs ≤ v.timingSet.lim

theorem reclamp_within {old new : Nat} {t : Timing} (i : t.i.natAbs ≤ old) (c : t.c.natAbs ≤ old) :
    (reclamp old new t).i.natAbs ≤ new ∧ (reclamp old new t).c.natAbs ≤ new := by
  unfold reclamp
  split
  · next same => exact ⟨same ▸ i, same ▸ c⟩
  · exact ⟨natAbs_clampTo_le _ _, natAbs_clampTo_le _ _⟩

theorem setTimingValue_within {v : Circuit} (ref : RefMonitor) (set : TimingSettings) (i : v.timing.i.natAbs ≤ v.timingSet.lim)
    (c : v.timing.c.natAbs ≤ v.timingSet.lim) :
    (setTimingValue v ref set).i.natAbs ≤ set.lim ∧ (setTimingValue v ref set).c.natAbs ≤ set.lim := by
  obtain ⟨i', c'⟩ := reclamp_within (new := set.lim) i c
  unfold setTimingValue Timing.zeroWindow
  dsimp only
  split
  · exact ⟨by split <;> exact i', natAbs_clampTo_le _ _⟩
  · split <;> exact ⟨i', c'⟩

theorem timingSound_keptByCircuits : KeptByCircuits Circuit.TimingSound where
  reset := ⟨rfl, Nat.zero_le _, Nat.zero_le _⟩
  move _ v _ move sound := by
    obtain ⟨range, i, c⟩ := sound
    cases move with
    | timing kept =>
      obtain ⟨keptI, keptC⟩ := kept
      exact ⟨range, keptI.elim (· ▸ i) id, keptC.elim (· ▸ c) id⟩
    | setTiming own set ref setRange => exact ⟨setRange, setTimingValue_within ref set i c⟩
    | playout move =>
      obtain ⟨_, _, _, _, _, rfl⟩ := move.eq
      exact ⟨range, i, c⟩
    | _ => exact ⟨range, i, c⟩
  closed _ _ sound := sound
  opened _ _ _ _ _ sound := ⟨sound.1, Nat.zero_le _, Nat.zero_le _⟩
  tick _ sound := sound

theorem timingSound_keptBySteps : KeptBySteps TimingSound := timingSound_keptByCircuits.keptBySteps

/-! ### Probing (R130, R132, R134, R138) -/

/-- The round trips of a delay record are at most 1 s, its samples at most 65535. -/
def DelayRecord.Sound (r : DelayRecord) : Prop :=
  r.lastRoundTrip ≤ 10000000 ∧ r.sampleCount ≤ 65535 ∧ (∀ v : Nat, r.smoothed = some v → v ≤ 10000000)
    ∧ ∀ (p : Port) (m : Nat), r.minimum.get p = some m → m ≤ 10000000

/-- At most four outstanding probes, of distinct numbers. -/
def OutstandingSound (list : List Outstanding) : Prop := list.length ≤ 4 ∧ (list.map Outstanding.number).Nodup

/-- What `ProbesSound` says of one circuit. -/
def Circuit.ProbesSound (v : Circuit) : Prop :=
  ∀ π : Path, OutstandingSound (v.probing.outstanding.get π) ∧ (v.state = .closed → v.probing.outstanding.get π = [])
    ∧ v.probing.postponed.get π ≤ 8 ∧ (v.probing.record.get π).Sound

theorem probesSound_iff (s : State) : ProbesSound s ↔ ∀ c, (s.circuit c).ProbesSound := by
  simp only [ProbesSound, Circuit.ProbesSound, OutstandingSound, DelayRecord.Sound, and_assoc]

theorem DelayRecord.reset_sound : DelayRecord.reset.Sound :=
  ⟨Nat.zero_le _, Nat.zero_le _, nofun, fun p _ => by cases p <;> nofun⟩

theorem smoothedAfter_le {old : Option Nat} {sample : Nat} (h : ∀ v : Nat, old = some v → v ≤ 10000000) (le : sample ≤ 10000000) :
    smoothedAfter old sample ≤ 10000000 := by
  cases old with
  | none => exact le
  | some v =>
    have old := h v rfl
    simp only [smoothedAfter]
    rcases Int.le_total 0 ((sample : Int) - v) with rises | falls
    · rw [Int.tdiv_eq_ediv_of_nonneg rises]
      omega
    · rw [← Int.neg_neg ((sample : Int) - v), Int.neg_tdiv, Int.tdiv_eq_ediv_of_nonneg (by omega)]
      omega

theorem minimumAfter_le {old : Option Nat} {sample m : Nat} (h : ∀ v : Nat, old = some v → v ≤ 10000000) (le : sample ≤ 10000000)
    (is : minimumAfter old sample = some m) : m ≤ 10000000 := by
  unfold minimumAfter at is
  split at is
  · exact Option.some.inj is ▸ le
  · next v =>
    split at is
    · exact Option.some.inj is ▸ le
    · exact Option.some.inj is ▸ h v rfl

theorem DelayRecord.take_sound {r : DelayRecord} {sample : Nat} (h : r.Sound) (le : sample ≤ 10000000) : (r.take sample).Sound := by
  obtain ⟨-, -, smoothed, minimum⟩ := h
  refine ⟨le, Nat.min_le_left .., fun v is => Option.some.inj is ▸ smoothedAfter_le smoothed le, fun p m is => ?_⟩
  cases p with
  | cp0 => exact minimumAfter_le (minimum .cp0) le is
  | cp1 => exact minimumAfter_le (minimum .cp1) le is

theorem DelayRecord.clearMinimum_sound {r : DelayRecord} (p : Port) (h : r.Sound) : (r.clearMinimum p).Sound := by
  obtain ⟨last, samples, smoothed, minimum⟩ := h
  refine ⟨last, samples, smoothed, fun q m is => ?_⟩
  by_cases same : q = p
  · subst same
    simp [DelayRecord.clearMinimum] at is
  · rw [DelayRecord.clearMinimum, PerPort.get_set_ne _ _ same] at is
    exact minimum q m is

theorem OutstandingSound.departed {list : List Outstanding} (h : OutstandingSound list) (number : Seq) (t1 : Time) :
    OutstandingSound (departedList list number t1) := by
  obtain ⟨length, distinct⟩ := h
  have shorter := List.length_filter_le (fun e : Outstanding => e.number != number) list
  have others : ∀ e ∈ list.filter fun e => e.number != number, e.number ≠ number := fun e there => by simpa using (List.mem_filter.mp there).2
  have kept := distinct.sublist ((List.filter_sublist (p := fun e => e.number != number)).map Outstanding.number)
  unfold departedList
  generalize list.filter _ = rest at shorter others kept
  have append : ∀ room : List Outstanding, room.Sublist rest → room.length ≤ 3 → OutstandingSound (room ++ [⟨number, t1⟩]) := by
    refine fun room sub le => ⟨by simp only [List.length_append, List.length_singleton]; omega, ?_⟩
    rw [List.map_append, List.nodup_append]
    refine ⟨kept.sublist (sub.map _), List.nodup_singleton _, ?_⟩
    rintro _ there _ new rfl
    obtain ⟨e, member, is⟩ := List.mem_map.mp there
    exact others e (sub.subset member) (is.trans (List.mem_singleton.mp new))
  dsimp only
  split
  · exact append _ (List.drop_sublist 1 rest) (by rw [List.length_drop]; omega)
  · exact append _ (List.Sublist.refl rest) (by omega)

theorem OutstandingSound.newerThan {list : List Outstanding} (h : OutstandingSound list) (number : Seq) :
    OutstandingSound (newerThan list number) := by
  obtain ⟨length, distinct⟩ := h
  have sub : (Machine.newerThan list number).Sublist list := (List.drop_sublist ..).trans (List.dropWhile_sublist _)
  exact ⟨sub.length_le.trans length, distinct.sublist (sub.map _)⟩

theorem ProbingMove.keeps_probes {v : Circuit} {b : Probing} (h : ProbingMove v b) (sound : v.ProbesSound) :
    ({ v with probing := b } : Circuit).ProbesSound := by
  intro ρ
  obtain ⟨list, closed, postponed, record⟩ := sound ρ
  cases h with
  | timer => exact ⟨list, closed, postponed, record⟩
  | probe π => exact ⟨list, closed, PerPath.set_keeps (holds := (· ≤ 8)) ρ postponed fun _ => Nat.zero_le _, record⟩
  | postpone π below => exact ⟨list, closed, PerPath.set_keeps (holds := (· ≤ 8)) ρ postponed fun _ => below, record⟩
  | departed π number t1 open_ =>
    exact ⟨PerPath.set_keeps ρ list fun _ => (sound π).1.departed number t1, fun is => absurd is ((isOpen_iff v).mp open_),
      postponed, record⟩
  | matched π number =>
    refine ⟨PerPath.set_keeps ρ list fun _ => (sound π).1.newerThan number, fun is => ?_, postponed, record⟩
    refine PerPath.set_keeps (holds := (· = [])) ρ (closed is) fun _ => ?_
    rw [(sound π).2.1 is]
    rfl
  | sample π trip plausible =>
    exact ⟨list, closed, postponed, PerPath.set_keeps ρ record fun _ => DelayRecord.take_sound (sound π).2.2.2 plausible⟩
  | delayAlarm π alarm => exact ⟨list, closed, postponed, PerPath.set_keeps ρ record fun _ => (sound π).2.2.2⟩
  | asymmetryAlarm => exact ⟨list, closed, postponed, record⟩
  | clearMinimum p =>
    refine ⟨list, closed, postponed, ?_⟩
    cases ρ with
    | x => exact DelayRecord.clearMinimum_sound p record
    | y => exact DelayRecord.clearMinimum_sound p record

theorem probesSound_keptByCircuits : KeptByCircuits Circuit.ProbesSound where
  reset π := by cases π <;> exact ⟨⟨Nat.zero_le _, .nil⟩, fun _ => rfl, Nat.zero_le _, DelayRecord.reset_sound⟩
  move _ v w move sound := by
    have entered : w.probing = v.probing → w.state ≠ .closed → w.ProbesSound := fun same open_ π => by
      obtain ⟨list, -, postponed, record⟩ := sound π
      rw [same]
      exact ⟨list, fun is => absurd is open_, postponed, record⟩
    cases move with
    | probing move => exact move.keeps_probes sound
    | playout move =>
      obtain ⟨_, _, _, _, _, rfl⟩ := move.eq
      exact sound
    | acquiring => exact entered rfl nofun
    | running => exact entered rfl nofun
    | hold => exact entered rfl nofun
    | resumed => exact entered rfl nofun
    | closing => exact entered rfl nofun
    | _ => exact sound
  closed _ _ sound π := by
    obtain ⟨-, -, postponed, record⟩ := sound π
    cases π <;> exact ⟨⟨Nat.zero_le _, .nil⟩, fun _ => rfl, postponed, record⟩
  opened _ _ _ _ _ _ π := by
    cases π <;> exact ⟨⟨Nat.zero_le _, .nil⟩, nofun, Nat.zero_le _, DelayRecord.reset_sound⟩
  tick _ sound := sound

theorem probesSound_keptBySteps : KeptBySteps ProbesSound := by
  have kept := probesSound_keptByCircuits.keptBySteps
  simpa only [← probesSound_iff] using kept

end Sys2Proof.Machine
end

section
/-! What the steps keep of the tributary lines: the framer's place in the bits received, the history beside the frame period, and the counts of
LOS and AIS (sections 2.1 to 2.4). -/

namespace Sys2Proof.Machine

variable {v : Circuit}

/-- One of two bit sequences, both the bits received last, begins the other. -/
def Agree (xs ys : List Bool) : Prop := xs <+: ys ∨ ys <+: xs

theorem Agree.symm {xs ys : List Bool} (h : Agree xs ys) : Agree ys xs := Or.symm h

theorem agree_nil (ys : List Bool) : Agree [] ys := .inl List.nil_prefix

theorem Agree.of_prefix {xs ys zs : List Bool} (h : Agree xs ys) (shorter : zs <+: xs) : Agree zs ys :=
  h.elim (fun begins => .inl (shorter.trans begins)) (fun begun => List.prefix_or_prefix_of_prefix shorter begun)

theorem Agree.cons {xs ys : List Bool} (h : Agree xs ys) (b : Bool) : Agree (b :: xs) (b :: ys) :=
  h.imp (List.cons_prefix_cons.mpr ⟨rfl, ·⟩) (List.cons_prefix_cons.mpr ⟨rfl, ·⟩)

/-- What `LinesSound` says of a line beside the framer's place. -/
def Line.CountsSound (l : Line) : Prop :=
  Agree l.history l.period ∧ l.period.length ≤ l.rxCount ∧ l.spanSpaces ≤ l.spanBits
    ∧ (l.los = true → l.spaceRun = 0) ∧ (l.los = false → l.markPeriods = 0)

/-- What `LinesSound` says of one circuit. -/
def Circuit.LineSound (v : Circuit) : Prop := FramerPlaced v ∧ v.line.CountsSound

theorem linesSound_iff (s : State) : LinesSound s ↔ ∀ c, (s.circuit c).LineSound := Iff.rfl

/-- The framer's place of an open circuit (R25 to R29). -/
def Line.Placed (l : Line) (mode : LineMode) : Prop :=
  (l.framer = .notRequired ↔ mode = .unstructured)
    ∧ (l.framer = .search → l.firstTestPassed = false ∧ l.searchPos + l.history.length = l.rxCount)
    ∧ (l.framer = .verify → l.candidate + l.history.length = l.rxCount ∧ (if l.firstTestPassed then 264 else 8) ≤ l.history.length)
    ∧ (l.framer = .aligned ∨ l.framer = .notRequired → l.firstTestPassed = false ∧ l.history = [])

theorem framerPlaced_iff_of_open {v : Circuit} (open_ : v.isOpen = true) : FramerPlaced v ↔ v.line.Placed v.layoutD.mode := by
  have state := (isOpen_iff v).mp open_
  exact ⟨fun h => h.2 state, fun h => ⟨fun closed => absurd closed state, fun _ => h⟩⟩

theorem framerPlaced_iff_of_closed {v : Circuit} (closed : v.state = .closed) :
    FramerPlaced v ↔ v.line.framer = .search ∧ v.line.firstTestPassed = false ∧ v.line.history = [] :=
  ⟨fun h => h.1 closed, fun h => ⟨fun _ => h, fun open_ => absurd closed open_⟩⟩

theorem framerActive_iff (v : Circuit) : v.framerActive = true ↔ v.isOpen = true ∧ v.layoutD.mode = .structured := by
  simp [Circuit.framerActive]

/-- The framer's place where alignment is sought: in SEARCH. -/
theorem placed_search {l : Line} (framer : l.framer = .search) :
    l.Placed .structured ↔ l.firstTestPassed = false ∧ l.searchPos + l.history.length = l.rxCount := by
  simp [Line.Placed, framer]

theorem placed_verify {l : Line} (framer : l.framer = .verify) :
    l.Placed .structured
      ↔ l.candidate + l.history.length = l.rxCount ∧ (if l.firstTestPassed then 264 else 8) ≤ l.history.length := by
  simp [Line.Placed, framer]

theorem placed_aligned {l : Line} (framer : l.framer = .aligned) :
    l.Placed .structured ↔ l.firstTestPassed = false ∧ l.history = [] := by
  simp [Line.Placed, framer]

/-! ### What each step of the framer finds due (R25 to R27) -/

theorem searchDue_iff (v : Circuit) :
    v.searchDue = true ↔ v.framerActive = true ∧ v.line.framer = .search ∧ v.line.searchPos + 8 ≤ v.line.rxCount := by
  simp [Circuit.searchDue, and_assoc]

theorem verifyDue_iff (v : Circuit) :
    v.verifyDue = true ↔ v.framerActive = true ∧ v.line.framer = .verify
      ∧ v.line.candidate + (if v.line.firstTestPassed then 512 else 256) + 8 ≤ v.line.rxCount := by
  simp [Circuit.verifyDue, and_assoc]

theorem lossDue_iff (v : Circuit) :
    v.lossDue = true ↔ v.framerActive = true ∧ v.line.framer = .aligned ∧ 3 ≤ v.line.erroredRun := by
  simp [Circuit.lossDue, and_assoc]

/-- In an open STRUCTURED circuit the line after a step is sound when its framer is placed and its counts agree. -/
theorem lineSound_of_active {l : Line} (active : v.framerActive = true) (placed : l.Placed .structured) (counts : l.CountsSound) :
    ({ v with line := l } : Circuit).LineSound := by
  obtain ⟨open_, mode⟩ := (framerActive_iff v).mp active
  exact ⟨(framerPlaced_iff_of_open (v := { v with line := l }) open_).mpr (mode ▸ placed), counts⟩

theorem Circuit.LineSound.placed (h : v.LineSound) (active : v.framerActive = true) : v.line.Placed .structured := by
  obtain ⟨open_, mode⟩ := (framerActive_iff v).mp active
  exact mode ▸ (framerPlaced_iff_of_open open_).mp h.1

/-! ### The steps -/

/-- Judging a period for LOS clearance writes the mark period count alone, and only while LOS is present (R30). -/
theorem Line.judgePeriod_eq (l : Line) (bits : List Bool) :
    ∃ n : Nat, l.judgePeriod bits = { l with markPeriods := n } ∧ (l.los = false → n = l.markPeriods) := by
  unfold Line.judgePeriod
  split
  · next los => exact ⟨_, rfl, fun clear => absurd (los.symm.trans clear) (by decide)⟩
  · exact ⟨_, rfl, fun _ => rfl⟩

theorem searchExamine_sound {word : BitVec 7} (due : v.searchDue = true) (h : v.LineSound) :
    ({ v with line := v.line.searchExamine word } : Circuit).LineSound := by
  obtain ⟨active, framer, room⟩ := (searchDue_iff v).mp due
  obtain ⟨first, position⟩ := (placed_search framer).mp (h.placed active)
  obtain ⟨agree, period, span, los, marks⟩ := h.2
  unfold Line.searchExamine
  split
  · refine lineSound_of_active active ((placed_verify rfl).mpr ⟨position, ?_⟩) ⟨agree, period, span, los, marks⟩
    simp only [Bool.false_eq_true, if_false]
    omega
  · refine lineSound_of_active active ((placed_search (by exact framer)).mpr ⟨first, ?_⟩)
      ⟨agree.of_prefix (List.dropLast_prefix _), period, span, los, marks⟩
    simp only [List.length_dropLast]
    omega

theorem firstTest_sound (due : v.verifyDue = true) (first : v.line.firstTestPassed = false) (h : v.LineSound) :
    ({ v with line := { v.line with firstTestPassed := true } } : Circuit).LineSound := by
  obtain ⟨active, framer, room⟩ := (verifyDue_iff v).mp due
  obtain ⟨position, -⟩ := (placed_verify framer).mp (h.placed active)
  rw [first] at room
  refine lineSound_of_active active ((placed_verify (by exact framer)).mpr ⟨position, ?_⟩) h.2
  simp only [Bool.false_eq_true, if_false, if_true] at room ⊢
  omega

theorem verifyFailed_sound (due : v.verifyDue = true) (h : v.LineSound) :
    ({ v with line := v.line.verifyFailed } : Circuit).LineSound := by
  obtain ⟨active, framer, -⟩ := (verifyDue_iff v).mp due
  obtain ⟨position, length⟩ := (placed_verify framer).mp (h.placed active)
  obtain ⟨agree, period, span, los, marks⟩ := h.2
  refine lineSound_of_active active ((placed_search rfl).mpr ⟨rfl, ?_⟩)
    ⟨agree.of_prefix (List.dropLast_prefix _), period, span, los, marks⟩
  simp only [Line.verifyFailed, List.length_dropLast]
  split at length <;> omega

theorem alignedEntry_sound (due : v.verifyDue = true) (h : v.LineSound) :
    ({ v with line := v.line.alignedEntry } : Circuit).LineSound := by
  obtain ⟨active, framer, -⟩ := (verifyDue_iff v).mp due
  obtain ⟨-, -, span, los, marks⟩ := h.2
  obtain ⟨n, judged, kept⟩ := v.line.judgePeriod_eq v.line.period
  unfold Line.alignedEntry
  rw [judged]
  refine lineSound_of_active active ((placed_aligned rfl).mpr ⟨rfl, rfl⟩)
    ⟨agree_nil _, ?_, span, los, fun clear => (kept clear).trans (marks clear)⟩
  simp only [List.length_take]
  omega

theorem alignmentLost_sound (due : v.lossDue = true) (h : v.LineSound) :
    ({ v with line := v.line.alignmentLost } : Circuit).LineSound := by
  obtain ⟨active, framer, -⟩ := (lossDue_iff v).mp due
  obtain ⟨first, -⟩ := (placed_aligned framer).mp (h.placed active)
  obtain ⟨-, period, span, los, marks⟩ := h.2
  refine lineSound_of_active active ((placed_search rfl).mpr ⟨first, ?_⟩)
    ⟨.inl (List.take_prefix ..), period, span, los, marks⟩
  simp only [Line.alignmentLost, List.length_take]
  omega

theorem boundary_sound (h : v.LineSound) : ({ v with line := v.line.boundary } : Circuit).LineSound := by
  obtain ⟨place, agree, period, span, los, marks⟩ := h
  obtain ⟨n, judged, kept⟩ := v.line.judgePeriod_eq (v.line.period.drop (v.line.period.length - 256))
  unfold Line.boundary
  rw [judged]
  generalize v.line.period.length - 256 = left
  refine ⟨place, (agree.symm.of_prefix (List.take_prefix ..)).symm, ?_, span, los, fun clear => (kept clear).trans (marks clear)⟩
  simp only [List.length_take]
  omega

/-- Where the framer does not keep the bits it receives there is no history, and none is wanted in SEARCH or VERIFY of an open circuit. -/
theorem history_of_not_searching (h : v.LineSound) (idle : v.searching = false) :
    v.line.history = [] ∧ (v.isOpen = true → v.line.framer = .aligned ∨ v.line.framer = .notRequired) := by
  by_cases open_ : v.isOpen = true
  · obtain ⟨mode, -, -, outside⟩ := (framerPlaced_iff_of_open open_).mp h.1
    have elsewhere : v.line.framer = .aligned ∨ v.line.framer = .notRequired := by
      by_cases structured : v.layoutD.mode = .structured
      · simp only [Circuit.searching, (framerActive_iff v).mpr ⟨open_, structured⟩, Bool.true_and, Bool.or_eq_false_iff,
          decide_eq_false_iff_not] at idle
        cases framer : v.line.framer with
        | search => exact absurd framer idle.1
        | verify => exact absurd framer idle.2
        | aligned => exact .inl rfl
        | notRequired => exact .inr rfl
      · refine .inr (mode.mpr ?_)
        cases unstructured : v.layoutD.mode with
        | structured => exact absurd unstructured structured
        | unstructured => rfl
    exact ⟨(outside elsewhere).2, fun _ => elsewhere⟩
  · have closed := (isOpen_eq_false_iff v).mp (by simpa using open_)
    exact ⟨((framerPlaced_iff_of_closed closed).mp h.1).2.2, fun is => absurd is open_⟩

theorem searching_active (searching : v.searching = true) :
    v.framerActive = true ∧ (v.line.framer = .search ∨ v.line.framer = .verify) := by
  simpa [Circuit.searching] using searching

/-- One more bit keeps the framer's place: the history grows with the receive count while the framer keeps its bits (R21, R25). -/
theorem takeBit_placed (crystal mark : Bool) (h : v.LineSound) : FramerPlaced (v.takeBit crystal mark) := by
  cases searching : v.searching with
  | true =>
    obtain ⟨active, framer⟩ := searching_active searching
    obtain ⟨open_, mode⟩ := (framerActive_iff v).mp active
    refine (framerPlaced_iff_of_open (v := v.takeBit crystal mark) open_).mpr ?_
    rw [show (v.takeBit crystal mark).layoutD.mode = .structured from mode]
    rcases framer with search | verify
    · obtain ⟨first, position⟩ := (placed_search search).mp (h.placed active)
      refine (placed_search (by exact search)).mpr ⟨first, ?_⟩
      simp only [Circuit.takeBit, Line.takeBit, searching, if_true, List.length_cons]
      omega
    · obtain ⟨position, length⟩ := (placed_verify verify).mp (h.placed active)
      refine (placed_verify (by exact verify)).mpr ⟨?_, ?_⟩
      · simp only [Circuit.takeBit, Line.takeBit, searching, if_true, List.length_cons]
        omega
      · simp only [Circuit.takeBit, Line.takeBit, searching, if_true, List.length_cons]
        omega
  | false =>
    obtain ⟨none_, elsewhere⟩ := history_of_not_searching h searching
    have history : (v.takeBit crystal mark).line.history = v.line.history := by
      simp [Circuit.takeBit, Line.takeBit, searching]
    refine ⟨fun closed => ?_, fun state => ?_⟩
    · rw [history]
      exact (framerPlaced_iff_of_closed (v := v) closed).mp h.1
    · have open_ : v.isOpen = true := (isOpen_iff v).mpr state
      obtain ⟨mode, -, -, outside⟩ := (framerPlaced_iff_of_open open_).mp h.1
      refine ⟨mode, fun search => ?_, fun verify => ?_, fun _ => ?_⟩
      · exact absurd (show v.line.framer = .search from search) (by rcases elsewhere open_ with is | is <;> simp [is])
      · exact absurd (show v.line.framer = .verify from verify) (by rcases elsewhere open_ with is | is <;> simp [is])
      · rw [history]
        exact outside (elsewhere open_)

theorem takeBit_sound (crystal mark : Bool) (h : v.LineSound) :
    ({ v with line := (v.takeBit crystal mark).line } : Circuit).LineSound := by
  refine ⟨takeBit_placed crystal mark h, ?_⟩
  obtain ⟨agree, period, span, los, marks⟩ := h.2
  refine ⟨?_, Nat.succ_le_succ period, ?_, fun present => ?_, marks⟩
  · cases searching : v.searching with
    | true => simpa [Circuit.takeBit, Line.takeBit, searching] using agree.cons mark
    | false => simpa [Circuit.takeBit, Line.takeBit, searching, (history_of_not_searching h searching).1] using agree_nil _
  · simp only [Circuit.takeBit, Line.takeBit]
    split <;> omega
  · have was : v.line.los = true := present
    simp [Circuit.takeBit, Line.takeBit, was]

theorem LineMove.keeps_line {l : Line} (move : LineMove v l) (h : v.LineSound) : ({ v with line := l } : Circuit).LineSound := by
  have ⟨place, agree, period, span, los, marks⟩ := h
  cases move with
  | losSet => exact ⟨place, agree, period, span, fun _ => rfl, nofun⟩
  | losClear => exact ⟨place, agree, period, span, nofun, fun _ => rfl⟩
  | spanEnd => exact ⟨place, agree, period, Nat.le_refl 0, los, marks⟩
  | search due word => exact searchExamine_sound due h
  | firstTest due first => exact firstTest_sound due first h
  | verifyFailed due => exact verifyFailed_sound due h
  | aligned due => exact alignedEntry_sound due h
  | compare word => exact ⟨place, agree, period, span, los, marks⟩
  | lost due => exact alignmentLost_sound due h
  | boundary => exact boundary_sound h
  | bit crystal mark => exact takeBit_sound crystal mark h
  | _ => exact h

/-- The line is as sound in any other state in which the circuit is as open as before. -/
theorem Circuit.LineSound.entered {w : Circuit} (h : v.LineSound) (line : w.line = v.line) (layout : w.layout = v.layout)
    (was : v.isOpen = true) (open_ : w.isOpen = true) : w.LineSound := by
  obtain ⟨place, counts⟩ := h
  have layoutD : w.layoutD = v.layoutD := by rw [Circuit.layoutD, layout]; rfl
  refine ⟨(framerPlaced_iff_of_open open_).mpr ?_, line ▸ counts⟩
  rw [line, layoutD]
  exact (framerPlaced_iff_of_open was).mp place

theorem opened_lineSound {l : Layout} (now : Time) (h : v.LineSound) : (v.opened l now).LineSound := by
  obtain ⟨-, -, period, span, los, marks⟩ := h
  refine ⟨(framerPlaced_iff_of_open (v := v.opened l now) rfl).mpr ?_, agree_nil _, period, span, los, marks⟩
  show (v.line.opened l.mode).Placed l.mode
  cases l.mode <;> simp [Line.Placed, Line.opened]

theorem lineSound_keptByCircuits : KeptByCircuits Circuit.LineSound where
  reset := ⟨(framerPlaced_iff_of_closed rfl).mpr ⟨rfl, rfl, rfl⟩, agree_nil _, Nat.le_refl _, Nat.le_refl _, nofun, fun _ => rfl⟩
  move _ _ _ move sound := by
    cases move with
    | line move => exact move.keeps_line sound
    | playout move =>
      obtain ⟨_, _, _, _, _, rfl⟩ := move.eq
      exact sound
    | acquiring _ running => exact sound.entered rfl rfl (isOpen_of_state running nofun) rfl
    | running acquiring => exact sound.entered rfl rfl (isOpen_of_state acquiring nofun) rfl
    | hold allowed => exact sound.entered rfl rfl (isOpen_of_holdAllowed allowed) rfl
    | resumed _ held => exact sound.entered rfl rfl (isOpen_of_state held nofun) rfl
    | closing _ open_ => exact sound.entered rfl rfl open_ rfl
    | _ => exact sound
  closed v _ sound := by
    obtain ⟨-, -, period, span, los, marks⟩ := sound
    exact ⟨(framerPlaced_iff_of_closed rfl).mpr ⟨rfl, rfl, rfl⟩, agree_nil _, period, span, los, marks⟩
  opened _ _ now _ _ sound := opened_lineSound now sound
  tick _ sound := sound

theorem linesSound_keptBySteps : KeptBySteps LinesSound := lineSound_keptByCircuits.keptBySteps

/-- Settles O58: each of the five is kept by every move. -/
theorem everyStepKeepsTheNetworkSide : Obligations.EveryStepKeepsTheNetworkSide :=
  fun _ _ done => ⟨queuesSound_keptBySteps.step done, healthSound_keptBySteps.step done, probesSound_keptBySteps.step done,
    timingSound_keptBySteps.step done, linesSound_keptBySteps.step done⟩

end Sys2Proof.Machine
end

section
/-! What the steps keep of the playout rings (chapter 5): a store fills an EMPTY slot ahead of head, a freed head slot leaves every other packet one
place nearer, and a flush empties the ring. -/

namespace Sys2Proof.Machine

variable {v : Circuit} {l : Layout} {h n : Seq}

/-! ### Offsets and places (R74, R76) -/

theorem seqOffset_self (h : Seq) : seqOffset h h = 0 := by simp [seqOffset]

/-- Seen from the next head a packet ahead is one place nearer. -/
theorem seqOffset_succ (ahead : seqOffset h n ≠ 0) : seqOffset (h + 1) n = seqOffset h n - 1 := by
  simp only [seqOffset] at ahead ⊢
  bv_omega

theorem layout_capacity_pos (l : Layout) : 0 < l.capacity := Nat.two_pow_pos _

theorem slotIndex_lt (l : Layout) (n : Seq) : slotIndex l n < l.capacity := Nat.mod_lt _ (layout_capacity_pos l)

/-- Two numbers less than a ring apart stand at different places. -/
theorem slotIndex_ne (range : l.wellFormed = true) (ahead : seqOffset h n ≠ 0) (inside : seqOffset h n < l.capacity) :
    slotIndex l n ≠ slotIndex l h := by
  have ⟨low, high⟩ : 2 ≤ l.k ∧ l.k ≤ 7 := by
    simp only [Layout.wellFormed, Bool.and_eq_true, decide_eq_true_eq] at range
    omega
  simp only [seqOffset, BitVec.toNat_sub] at ahead inside
  have := h.isLt
  have := n.isLt
  simp only [slotIndex, Layout.capacity] at inside ⊢
  generalize l.k = k at *
  interval_cases k <;> omega

/-! ### Places of a ring -/

theorem getElem?_slotIndex (length : v.ring.length = l.capacity) (layout : v.layoutD = l) (n : Seq) :
    v.ring[slotIndex l n]? = some (v.slotAt n) := by
  have inside : slotIndex l n < v.ring.length := length ▸ slotIndex_lt l n
  rw [Circuit.slotAt, layout, List.getD_eq_getElem?_getD, List.getElem?_eq_getElem inside, Option.getD_some]

/-- The slots that are not EMPTY, counted. -/
def filledSlots (ring : List RingSlot) : Nat := ring.countP fun slot => slot.kind != .empty

theorem filledSlots_set {ring : List RingSlot} {i : Nat} {old : RingSlot} (there : ring[i]? = some old) (new : RingSlot) :
    filledSlots (ring.set i new) + (if old.kind = .empty then 0 else 1)
      = filledSlots ring + (if new.kind = .empty then 0 else 1) := by
  obtain ⟨inside, rfl⟩ := List.getElem?_eq_some_iff.mp there
  have counted : ring[i].kind ≠ .empty → 0 < filledSlots ring := fun full =>
    List.countP_pos_iff.mpr ⟨_, List.getElem_mem inside, by simpa using full⟩
  unfold filledSlots at counted ⊢
  rw [List.countP_set inside]
  by_cases full : ring[i].kind = .empty <;> by_cases fill : new.kind = .empty <;> simp [full, fill]
  · have := counted full
    omega
  · have := counted full
    omega

theorem exists_of_filledSlots_ne_zero {ring : List RingSlot} (some_ : filledSlots ring ≠ 0) :
    ∃ (i : Nat) (slot : RingSlot), ring[i]? = some slot ∧ slot.kind ≠ .empty := by
  obtain ⟨slot, member, full⟩ := List.countP_pos_iff.mp (Nat.pos_of_ne_zero some_)
  obtain ⟨i, inside, is⟩ := List.mem_iff_getElem.mp member
  exact ⟨i, slot, List.getElem?_eq_some_iff.mpr ⟨inside, is⟩, by simpa using full⟩

theorem getElem?_set_cases {ring : List RingSlot} {i j : Nat} {slot new : RingSlot} (there : (ring.set i new)[j]? = some slot) :
    (j = i ∧ slot = new) ∨ (j ≠ i ∧ ring[j]? = some slot) := by
  rw [List.getElem?_set] at there
  split at there
  · next same =>
    split at there
    · exact .inl ⟨same.symm, (Option.some.inj there).symm⟩
    · cases there
  · next other => exact .inr ⟨fun same => other same.symm, there⟩

/-! ### Empty rings (R75) -/

/-- A ring of EMPTY slots with the cursor of a flush. -/
theorem ringSound_of_empty (range : l.wellFormed = true) (length : v.ring.length = l.capacity)
    (empty : ∀ slot ∈ v.ring, slot.kind = .empty) (filled : v.cursor.filledCount = 0) (hi : v.cursor.hi = none)
    (frame : v.cursor.frameIndex = 0) (early : v.cursor.earlyRun ≤ 8) (missing : v.cursor.missingRun ≤ 255) : RingSound v l := by
  have fpp : 1 ≤ l.fpp := by
    simp only [Layout.wellFormed, Bool.and_eq_true, decide_eq_true_eq] at range
    omega
  refine ⟨length, ?_, fun i slot there full => ?_, fun m is => ?_, by omega, early, missing⟩
  · rw [filled]
    exact (List.countP_eq_zero.mpr fun slot member => by simp [empty slot member]).symm
  · exact absurd (empty slot (List.mem_of_getElem? there)) full
  · exact absurd (hi.symm.trans is) nofun

theorem ringSound_flush {w : Circuit} (range : l.wellFormed = true) (sound : RingSound v l) (ring : w.ring = v.flush.ring)
    (filled : w.cursor.filledCount = 0) (hi : w.cursor.hi = none) (frame : w.cursor.frameIndex = 0) (early : w.cursor.earlyRun = 0)
    (missing : w.cursor.missingRun = 0) : RingSound w l := by
  refine ringSound_of_empty range ?_ ?_ filled hi frame (early ▸ Nat.zero_le 8) (missing ▸ Nat.zero_le 255)
  · rw [ring]
    exact (List.length_map _).trans sound.1
  · rw [ring]
    intro slot member
    obtain ⟨-, -, rfl⟩ := List.mem_map.mp member
    rfl

/-- With head unset every slot is EMPTY and hi is none. -/
theorem RingSound.all_empty (sound : RingSound v l) (unset : v.cursor.head = none) :
    (∀ slot ∈ v.ring, slot.kind = .empty) ∧ v.cursor.hi = none := by
  obtain ⟨-, -, slots, furthest, -⟩ := sound
  refine ⟨fun slot member => ?_, ?_⟩
  · obtain ⟨i, inside, is⟩ := List.mem_iff_getElem.mp member
    by_contra full
    obtain ⟨-, head, -, set, -⟩ := slots i slot (List.getElem?_eq_some_iff.mpr ⟨inside, is⟩) full
    exact absurd (unset.symm.trans set) nofun
  · cases hi : v.cursor.hi with
    | none => rfl
    | some m =>
      obtain ⟨head, set, -⟩ := furthest m hi
      exact absurd (unset.symm.trans set) nofun

/-! ### A store (R77, R79) -/

theorem raiseHi_eq (h : Seq) (hi : Option Seq) (n : Seq) :
    ∃ m : Seq, raiseHi h hi n = some m ∧ seqOffset h n ≤ seqOffset h m ∧ (m = n ∨ hi = some m)
      ∧ ∀ old : Seq, hi = some old → seqOffset h old ≤ seqOffset h m := by
  unfold raiseHi
  split
  · exact ⟨n, rfl, Nat.le_refl _, .inl rfl, nofun⟩
  · next m =>
    split
    · next further => exact ⟨n, rfl, Nat.le_refl _, .inl rfl, fun old is => Option.some.inj is ▸ further.le⟩
    · next nearer => exact ⟨m, rfl, Nat.not_lt.mp nearer, .inr rfl, fun old is => Option.some.inj is ▸ Nat.le_refl _⟩

theorem Arrival.slot_kind_ne (a : Arrival) (π : Path) (now : Time) : (a.slot π now).kind ≠ .empty := by
  unfold Arrival.slot
  dsimp only
  split <;> nofun

/-- A store into an EMPTY slot ahead of head keeps the ring sound. -/
theorem store_ringSound (π : Path) (now : Time) {a : Arrival} (layout : v.layoutD = l) (sound : RingSound v l)
    (set : v.cursor.head = some h) (inside : seqOffset h a.seq < l.capacity) (empty : (v.slotAt a.seq).kind = .empty) :
    RingSound (v.store π now a) l := by
  obtain ⟨length, count, slots, furthest, frame, early, missing⟩ := sound
  obtain ⟨top, raised, reaches, whence, passes⟩ := raiseHi_eq h v.cursor.hi a.seq
  have there := getElem?_slotIndex length layout a.seq
  have ring : (v.store π now a).ring = v.ring.set (slotIndex l a.seq) (a.slot π now) := by rw [← layout]; rfl
  have head : (v.store π now a).cursor.head = some h := set
  have hi : (v.store π now a).cursor.hi = some top := by rw [← raised]; simp [Circuit.store, set]
  have newLayout : (v.store π now a).layoutD = l := layout
  have newLength : (v.store π now a).ring.length = l.capacity := by rw [ring, List.length_set, length]
  have full := a.slot_kind_ne π now
  refine ⟨newLength, ?_, fun i slot at_i kind => ?_, fun m is => ?_, frame, Nat.zero_le 8, missing⟩
  · have counts := filledSlots_set there (a.slot π now)
    rw [if_pos empty, if_neg full] at counts
    rw [ring]
    exact (congrArg (· + 1) count).trans counts.symm
  · rw [ring] at at_i
    rw [head, hi]
    rcases getElem?_set_cases at_i with ⟨rfl, rfl⟩ | ⟨-, old⟩
    · exact ⟨rfl, h, top, rfl, rfl, reaches⟩
    · obtain ⟨place, h', m, headIs, hiIs, within_⟩ := slots i slot old kind
      obtain rfl := Option.some.inj (set.symm.trans headIs)
      exact ⟨place, h, top, rfl, rfl, within_.trans (passes m hiIs)⟩
  · obtain rfl := Option.some.inj (hi.symm.trans is)
    refine ⟨h, head, ?_⟩
    have at_top := getElem?_slotIndex newLength newLayout top
    rw [ring, List.getElem?_set] at at_top
    rcases whence with rfl | old
    · rw [if_pos rfl, if_pos (length ▸ slotIndex_lt l _)] at at_top
      rw [← Option.some.inj at_top]
      exact ⟨inside, rfl, full⟩
    · obtain ⟨h', headIs, ahead, number, kind⟩ := furthest top old
      obtain rfl := Option.some.inj (set.symm.trans headIs)
      have at_old := getElem?_slotIndex length layout top
      have elsewhere : slotIndex l a.seq ≠ slotIndex l top := by
        intro same
        rw [← same, there] at at_old
        exact kind (Option.some.inj at_old ▸ empty)
      rw [if_neg elsewhere, at_old] at at_top
      rw [← Option.some.inj at_top]
      exact ⟨ahead, number, kind⟩

/-- The first store finds head unset, takes its own number for head and keeps the ring sound. -/
theorem storeFirst_ringSound (π : Path) (now : Time) (a : Arrival) (range : l.wellFormed = true) (layout : v.layoutD = l)
    (sound : RingSound v l) (unset : v.cursor.head = none) :
    RingSound (({ v with cursor := { v.cursor with head := some a.seq, frameIndex := 0, headTaken := false } } : Circuit).store
      π now a) l := by
  obtain ⟨empty, hi⟩ := sound.all_empty unset
  obtain ⟨length, count, -, -, -, early, missing⟩ := sound
  refine store_ringSound (h := a.seq) π now layout ?_ rfl (by rw [seqOffset_self]; exact layout_capacity_pos l) ?_
  · refine ringSound_of_empty range length empty ?_ hi rfl early missing
    rw [show v.cursor.filledCount = _ from count]
    exact List.countP_eq_zero.mpr fun slot member => by simp [empty slot member]
  · exact empty _ (List.mem_of_getElem? (getElem?_slotIndex length layout a.seq))

/-! ### A duplicate (R80) -/

/-- Slots of the same number and state in every place, and the same cursor counts, are as sound. -/
theorem RingSound.of_sameSlots {w : Circuit} {m : Seq} {new : RingSlot} (sound : RingSound v l) (layout : v.layoutD = l)
    (newLayout : w.layoutD = l) (ring : w.ring = v.ring.set (slotIndex l m) new) (kind : new.kind = (v.slotAt m).kind)
    (number : new.seq = (v.slotAt m).seq) (head : w.cursor.head = v.cursor.head) (hi : w.cursor.hi = v.cursor.hi)
    (filled : w.cursor.filledCount = v.cursor.filledCount) (frame : w.cursor.frameIndex = v.cursor.frameIndex)
    (early : w.cursor.earlyRun = v.cursor.earlyRun) (missing : w.cursor.missingRun = v.cursor.missingRun) : RingSound w l := by
  obtain ⟨length, count, slots, furthest, frameBelow, earlyBelow, missingBelow⟩ := sound
  have there := getElem?_slotIndex length layout m
  have newLength : w.ring.length = l.capacity := by rw [ring, List.length_set, length]
  have same : ∀ k : Seq, (w.slotAt k).kind = (v.slotAt k).kind ∧ (w.slotAt k).seq = (v.slotAt k).seq := by
    intro k
    have at_k := getElem?_slotIndex newLength newLayout k
    have old := getElem?_slotIndex length layout k
    rw [ring] at at_k
    rcases getElem?_set_cases at_k with ⟨place, is⟩ | ⟨-, is⟩
    · rw [place, there] at old
      rw [is, ← Option.some.inj old]
      exact ⟨kind, number⟩
    · rw [Option.some.inj (is.symm.trans old)]
      exact ⟨rfl, rfl⟩
  refine ⟨newLength, ?_, fun i slot at_i full => ?_, fun k is => ?_, frame ▸ frameBelow, early ▸ earlyBelow, missing ▸ missingBelow⟩
  · have counts := filledSlots_set there new
    rw [kind, Nat.add_right_cancel_iff] at counts
    rw [filled, ring]
    exact count.trans counts.symm
  · rw [head, hi]
    rw [ring] at at_i
    rcases getElem?_set_cases at_i with ⟨rfl, rfl⟩ | ⟨-, old⟩
    · obtain ⟨place, rest⟩ := slots _ _ there (kind ▸ full)
      rw [number]
      exact ⟨place, rest⟩
    · exact slots i slot old full
  · rw [hi] at is
    obtain ⟨h, set, ahead, at_k, full⟩ := furthest k is
    rw [head, (same k).1, (same k).2]
    exact ⟨h, set, ahead, at_k, full⟩

theorem duplicate_ringSound (π : Path) (now : Time) (n : Seq) (layout : v.layoutD = l) (sound : RingSound v l) :
    RingSound (v.duplicate π now n) l := by
  have ring : (v.setSlot n { v.slotAt n with deliveredBy := (v.slotAt n).deliveredBy.set π true }).ring
      = v.ring.set (slotIndex l n) { v.slotAt n with deliveredBy := (v.slotAt n).deliveredBy.set π true } := by
    rw [← layout]
    rfl
  unfold Circuit.duplicate
  dsimp only
  split
  · exact sound.of_sameSlots layout layout ring rfl rfl rfl rfl rfl rfl rfl rfl
  · exact sound.of_sameSlots layout layout ring rfl rfl rfl rfl rfl rfl rfl rfl

/-! ### The freeing of the head slot (R90) -/

/-- What the freeing of a head slot leaves: the slot EMPTY, head one further, and no hi where no packet is left. -/
theorem freeIfLast_ringSound (range : l.wellFormed = true) (layout : v.layoutD = l) (sound : RingSound v l)
    (set : v.cursor.head = some h) : RingSound (v.freeIfLast h) l := by
  obtain ⟨length, count, slots, furthest, frame, early, missing⟩ := sound
  unfold Circuit.freeIfLast
  dsimp only
  rw [layout]
  split
  · next last =>
    have there := getElem?_slotIndex length layout h
    have fpp : 0 < l.fpp := by omega
    have ringEq : (v.setSlot h .emptySlot).ring = v.ring.set (slotIndex l h) .emptySlot := by rw [← layout]; rfl
    have counted : (if (v.slotAt h).kind ≠ .empty then v.cursor.filledCount - 1 else v.cursor.filledCount)
        = filledSlots (v.ring.set (slotIndex l h) .emptySlot) := by
      have counts := filledSlots_set there .emptySlot
      have was : v.cursor.filledCount = filledSlots v.ring := count
      rw [if_pos (show RingSlot.emptySlot.kind = .empty from rfl)] at counts
      split
      · next full =>
        rw [if_neg full] at counts
        omega
      · next empty =>
        rw [if_pos (not_not.mp empty)] at counts
        omega
    -- What is still in the ring was ahead of head, and so was hi.
    have left : ∀ (i : Nat) (slot : RingSlot), (v.ring.set (slotIndex l h) .emptySlot)[i]? = some slot → slot.kind ≠ .empty →
        slotIndex l slot.seq = i ∧ ∃ m : Seq, v.cursor.hi = some m ∧ seqOffset h slot.seq ≠ 0
          ∧ seqOffset h slot.seq ≤ seqOffset h m := by
      intro i slot at_i full
      rcases getElem?_set_cases at_i with ⟨-, rfl⟩ | ⟨other, old⟩
      · exact absurd rfl full
      · obtain ⟨place, h', m, headIs, hiIs, within_⟩ := slots i slot old full
        obtain rfl := Option.some.inj (set.symm.trans headIs)
        refine ⟨place, m, hiIs, fun zero => other ?_, within_⟩
        have : slot.seq = h := by
          simp only [seqOffset] at zero
          bv_omega
        rw [← place, this]
    rw [counted]
    refine ⟨by rw [ringEq, List.length_set, length], by rw [ringEq]; rfl, fun i slot at_i full => ?_, fun m is => ?_, fpp,
      early, missing⟩
    · rw [ringEq] at at_i
      obtain ⟨place, m, hiIs, ahead, within_⟩ := left i slot at_i full
      have some_ : filledSlots (v.ring.set (slotIndex l h) .emptySlot) ≠ 0 :=
        Nat.ne_of_gt (List.countP_pos_iff.mpr ⟨slot, List.mem_of_getElem? at_i, by simpa using full⟩)
      refine ⟨place, h + 1, m, rfl, (if_neg some_).trans hiIs, ?_⟩
      rw [seqOffset_succ ahead, seqOffset_succ (by omega)]
      omega
    · have hiIs : (if filledSlots (v.ring.set (slotIndex l h) .emptySlot) = 0 then none else v.cursor.hi) = some m := is
      split at hiIs
      · cases hiIs
      · next some_ =>
        obtain ⟨i, slot, at_i, full⟩ := exists_of_filledSlots_ne_zero some_
        obtain ⟨-, m', hiIs', ahead, within_⟩ := left i slot at_i full
        obtain rfl := Option.some.inj (hiIs.symm.trans hiIs')
        obtain ⟨h', headIs, inside, number, kind⟩ := furthest m hiIs
        obtain rfl := Option.some.inj (set.symm.trans headIs)
        have further : seqOffset h m ≠ 0 := by omega
        have at_m := getElem?_slotIndex length layout m
        have elsewhere := slotIndex_ne range further inside
        have slot_m : (v.setSlot h .emptySlot).slotAt m = v.slotAt m := by
          have new := getElem?_slotIndex (v := v.setSlot h .emptySlot) (by rw [ringEq, List.length_set, length]) layout m
          rw [ringEq, List.getElem?_set_ne (Ne.symm elsewhere), at_m] at new
          exact (Option.some.inj new).symm
        refine ⟨h + 1, rfl, by rw [seqOffset_succ further]; omega, ?_⟩
        show ((v.setSlot h .emptySlot).slotAt m).seq = m ∧ ((v.setSlot h .emptySlot).slotAt m).kind ≠ .empty
        rw [slot_m]
        exact ⟨number, kind⟩
  · next more => exact ⟨length, count, slots, furthest, Nat.not_le.mp more, early, missing⟩

end Sys2Proof.Machine
end

section
/-! Every step keeps the rings, and every invariant holds at reset. -/

namespace Sys2Proof.Machine

variable {v w : Circuit} {l : Layout}

/-! ### The ring of one circuit -/

/-- What `RingsSound` says of one circuit. -/
def Circuit.RingKept (v : Circuit) : Prop :=
  (v.state = .closed → v.ring = [])
    ∧ (v.state ≠ .closed → ∃ l : Layout, v.layout = some l ∧ l.wellFormed = true ∧ RingSound v l)
    ∧ (v.state = .running ∨ v.state = .closing ∨ v.requests.acquisitionComplete = true → v.cursor.head.isSome = true)

theorem ringsSound_iff (s : State) : RingsSound s ↔ ∀ c, (s.circuit c).RingKept := Iff.rfl

theorem layoutD_of_layout (layout : v.layout = some l) : v.layoutD = l := by rw [Circuit.layoutD, layout]; rfl

/-- A move of the playout unit that keeps a sound ring sound, an empty ring empty, and a head set where one is wanted. -/
theorem Circuit.RingKept.playout (kept : v.RingKept) (state : w.state = v.state) (layout : w.layout = v.layout)
    (ring : v.ring = [] → w.ring = [])
    (sound : ∀ l : Layout, l.wellFormed = true → v.layoutD = l → RingSound v l → RingSound w l)
    (head : v.cursor.head.isSome = true → w.cursor.head.isSome = true)
    (complete : w.requests.acquisitionComplete = true → v.requests.acquisitionComplete = true ∨ w.cursor.head.isSome = true) :
    w.RingKept := by
  obtain ⟨closed, open_, wanted⟩ := kept
  refine ⟨fun is => ring (closed (state ▸ is)), fun is => ?_, fun is => ?_⟩
  · obtain ⟨l, has, range, was⟩ := open_ (state ▸ is)
    exact ⟨l, layout.trans has, range, sound l range (layoutD_of_layout has) was⟩
  · rcases is with running | closing | completed
    · exact head (wanted (.inl (state ▸ running)))
    · exact head (wanted (.inr (.inl (state ▸ closing))))
    · exact (complete completed).elim (fun was => head (wanted (.inr (.inr was)))) id

/-- An entry to an open state with the ring flushed. -/
theorem Circuit.RingKept.flushed (kept : v.RingKept) (was : v.isOpen = true) (layout : w.layout = v.layout)
    (state : w.state = .acquiring ∨ w.state = .hold) (ring : w.ring = v.flush.ring)
    (complete : w.requests.acquisitionComplete = false)
    (cursor : ∃ timer : Option Time, w.cursor = { v.cursor.flush with acqTimer := timer }) : w.RingKept := by
  obtain ⟨-, open_, -⟩ := kept
  obtain ⟨timer, cursor⟩ := cursor
  refine ⟨fun is => ?_, fun _ => ?_, fun is => ?_⟩
  · rcases state with acquiring | hold
    · exact nomatch acquiring.symm.trans is
    · exact nomatch hold.symm.trans is
  · obtain ⟨l, has, range, sound⟩ := open_ ((isOpen_iff v).mp was)
    refine ⟨l, layout.trans has, range, ?_⟩
    apply ringSound_flush range sound ring <;> rw [cursor] <;> rfl
  · rcases is with running | closing | completed
    · rcases state with other | other <;> exact nomatch running.symm.trans other
    · rcases state with other | other <;> exact nomatch closing.symm.trans other
    · exact absurd (complete.symm.trans completed) (by decide)

/-- An entry to an open state that leaves ring, layout and cursor counts, with head set. -/
theorem Circuit.RingKept.entered (kept : v.RingKept) (was : v.isOpen = true) (layout : w.layout = v.layout) (ring : w.ring = v.ring)
    (open_ : w.state ≠ .closed) (set : v.cursor.head.isSome = true)
    (cursor : ∃ timer : Option Time, w.cursor = { v.cursor with acqTimer := timer }) : w.RingKept := by
  obtain ⟨-, opened, -⟩ := kept
  obtain ⟨timer, cursor⟩ := cursor
  refine ⟨fun is => absurd is open_, fun _ => ?_, fun _ => by rw [cursor]; exact set⟩
  obtain ⟨l, has, range, sound⟩ := opened ((isOpen_iff v).mp was)
  refine ⟨l, layout.trans has, range, ?_⟩
  simpa only [RingSound, Circuit.slotAt, Circuit.layoutD, layout, ring, cursor] using sound

/-! ### The moves of the playout unit -/

theorem duplicate_frame (v : Circuit) (π : Path) (now : Time) (n : Seq) :
    (v.duplicate π now n).state = v.state ∧ (v.duplicate π now n).layout = v.layout
      ∧ (v.duplicate π now n).requests = v.requests ∧ (v.duplicate π now n).cursor.head = v.cursor.head
      ∧ (v.ring = [] → (v.duplicate π now n).ring = []) := by
  unfold Circuit.duplicate
  dsimp only
  split <;> exact ⟨rfl, rfl, rfl, rfl, fun none_ => by simp [Circuit.bumpCp, Circuit.setSlot, none_]⟩

/-- An early arrival leaves the ring and counts the early run, at most to 8; it may ask for an overrun (R81). -/
theorem earlyArrival_eq (v : Circuit) (π : Path) (n : Seq) :
    ∃ (cp : PerPath CpCounters) (run : Nat) (overrun : Option Seq), (v.cursor.earlyRun ≤ 8 → run ≤ 8)
      ∧ v.earlyArrival π n =
        { v with cpCounters := cp, cursor := { v.cursor with earlyRun := run }, requests := { v.requests with overrun := overrun } } := by
  unfold Circuit.earlyArrival
  dsimp only
  split
  · split <;> exact ⟨_, _, _, fun _ => Nat.min_le_left .., rfl⟩
  · exact ⟨_, _, _, id, rfl⟩

/-- The take of a head slot marks it taken and writes the missing run, at most 255; it may ask for an underrun (R87 to R91). -/
theorem takeHead_eq (v : Circuit) (head : Seq) (closes : PerPort Bool) :
    ∃ (run : Nat) (far : Option Bool) (k : CircuitCounters) (underrun : Option UnderrunRequest), run ≤ 255
      ∧ v.takeHead head closes =
        { v with cursor := { v.cursor with headTaken := true, missingRun := run, farL := far }, counters := k,
                 requests := { v.requests with underrun := underrun } } := by
  unfold Circuit.takeHead
  dsimp only
  split
  · exact ⟨_, _, _, _, Nat.zero_le _, rfl⟩
  · exact ⟨_, _, _, _, Nat.zero_le _, rfl⟩
  · split <;> exact ⟨_, _, _, _, Nat.min_le_left .., rfl⟩

theorem freeIfLast_frame (v : Circuit) (head : Seq) (set : v.cursor.head = some head) :
    (v.freeIfLast head).state = v.state ∧ (v.freeIfLast head).layout = v.layout
      ∧ (v.freeIfLast head).requests.acquisitionComplete = v.requests.acquisitionComplete
      ∧ (v.freeIfLast head).cursor.head.isSome = true ∧ (v.ring = [] → (v.freeIfLast head).ring = []) := by
  unfold Circuit.freeIfLast
  dsimp only
  split
  · refine ⟨rfl, rfl, ?_, rfl, fun none_ => by simp [Circuit.setSlot, none_]⟩
    exact (apply_ite Requests.acquisitionComplete _ _ _).trans (ite_self _)
  · exact ⟨rfl, rfl, rfl, by rw [set]; rfl, id⟩

theorem PlayoutMove.keeps_ring (move : PlayoutMove v w) (kept : v.RingKept) : w.RingKept := by
  cases move with
  | storeFirst π now a unset =>
    exact kept.playout rfl rfl (fun none_ => by simp [Circuit.store, Circuit.setSlot, Circuit.bumpCp, none_])
      (fun l range layout sound => storeFirst_ringSound π now a range layout sound unset) (fun _ => rfl) fun _ => .inr rfl
  | store π now a head set inside empty =>
    refine kept.playout rfl rfl (fun none_ => by simp [Circuit.store, Circuit.setSlot, Circuit.bumpCp, none_])
      (fun l range layout sound => store_ringSound π now layout sound set (layout ▸ inside) empty) id .inl
  | duplicate π now n =>
    obtain ⟨state, layout, requests, head, none_⟩ := duplicate_frame v π now n
    exact kept.playout state layout none_ (fun l _ layout sound => duplicate_ringSound π now n layout sound)
      (fun set => head ▸ set) fun complete => .inl (requests ▸ complete)
  | early π n =>
    obtain ⟨cp, run, overrun, le, eq⟩ := earlyArrival_eq v π n
    rw [eq]
    refine kept.playout rfl rfl id (fun l _ _ sound => ?_) id .inl
    obtain ⟨length, count, slots, furthest, frame, early, missing⟩ := sound
    exact ⟨length, count, slots, furthest, frame, le early, missing⟩
  | noteR r => exact kept.playout rfl rfl id (fun _ _ _ => id) id .inl
  | complete set => exact kept.playout rfl rfl id (fun _ _ _ => id) id fun _ => .inr set
  | take head closes =>
    obtain ⟨run, far, k, underrun, le, eq⟩ := takeHead_eq v head closes
    rw [eq]
    refine kept.playout rfl rfl id (fun l _ _ sound => ?_) id .inl
    obtain ⟨length, count, slots, furthest, frame, early, -⟩ := sound
    exact ⟨length, count, slots, furthest, frame, early, le⟩
  | notePlayed frame => exact kept.playout rfl rfl id (fun _ _ _ => id) id .inl
  | free head set =>
    obtain ⟨state, layout, complete, isSome, none_⟩ := freeIfLast_frame v head set
    exact kept.playout state layout none_ (fun l range layout sound => freeIfLast_ringSound range layout sound set)
      (fun _ => isSome) fun is => .inl (complete ▸ is)
  | restart now acquiring open_ =>
    exact kept.flushed (isOpen_of_state acquiring nofun) rfl (.inl acquiring) rfl open_ ⟨_, rfl⟩
  | requests r keeps => exact kept.playout rfl rfl id (fun _ _ _ => id) id fun is => .inl (keeps is)

/-! ### The circuit table -/

theorem head_isSome_of_undrained (undrained : v.drained = false) : v.cursor.head.isSome = true := by
  simp only [Circuit.drained, Bool.or_eq_false_iff] at undrained
  rw [← Option.not_isNone, undrained.2]
  rfl

theorem opened_ringSound (v : Circuit) (now : Time) (range : l.wellFormed = true) : RingSound (v.opened l now) l := by
  refine ringSound_of_empty range ?_ ?_ rfl rfl rfl (Nat.zero_le 8) (Nat.zero_le 255)
  · exact (List.length_map _).trans List.length_replicate
  · intro slot member
    obtain ⟨-, -, rfl⟩ := List.mem_map.mp member
    rfl

theorem ringKept_keptByCircuits : KeptByCircuits Circuit.RingKept where
  reset := ⟨fun _ => rfl, fun open_ => absurd rfl open_, by rintro (is | is | is) <;> cases is⟩
  move _ v _ move kept := by
    cases move with
    | playout move => exact move.keeps_ring kept
    | acquiring now running => exact kept.flushed (isOpen_of_state running nofun) rfl (.inl rfl) rfl rfl ⟨_, rfl⟩
    | running acquiring complete =>
      exact kept.entered (isOpen_of_state acquiring nofun) rfl rfl nofun (kept.2.2 (.inr (.inr complete))) ⟨_, rfl⟩
    | hold allowed => exact kept.flushed (isOpen_of_holdAllowed allowed) rfl (.inr rfl) rfl rfl ⟨_, rfl⟩
    | resumed now held => exact kept.flushed (isOpen_of_state held nofun) rfl (.inl rfl) rfl rfl ⟨_, rfl⟩
    | closing limit open_ undrained =>
      exact kept.entered open_ rfl rfl nofun (head_isSome_of_undrained undrained) ⟨_, rfl⟩
    | _ => exact kept
  closed v _ _ := ⟨fun _ => rfl, fun open_ => absurd rfl open_, by rintro (is | is | is) <;> cases is⟩
  opened v l now _ range _ :=
    ⟨nofun, fun _ => ⟨l, rfl, range, opened_ringSound v now range⟩, by rintro (is | is | is) <;> cases is⟩
  tick _ kept := kept

theorem ringsSound_keptBySteps : KeptBySteps RingsSound := ringKept_keptByCircuits.keptBySteps

/-- Settles O59: every move of a circuit keeps its ring, whatever the part does. -/
theorem everyStepKeepsTheRings : Obligations.EveryStepKeepsTheRings := fun _ _ done => ringsSound_keptBySteps.step done

/-- Settles O55: each invariant is brought about by device reset. -/
theorem invariantsHoldAtReset : Obligations.InvariantsHoldAtReset :=
  ⟨rfl, fun links => ⟨poolSound_keptBySteps.reset links, layoutsSound_keptBySteps.reset links,
    attentionSound_keptBySteps.reset links, authoritySound_keptBySteps.reset links, supervisionSound_keptBySteps.reset links,
    exchangeSound_keptBySteps.reset links, queuesSound_keptBySteps.reset links, healthSound_keptBySteps.reset links,
    probesSound_keptBySteps.reset links, timingSound_keptBySteps.reset links, ringsSound_keptBySteps.reset links,
    linesSound_keptBySteps.reset links⟩⟩

end Sys2Proof.Machine
end

section
/-! The queue of commands, what is due on an empty one, and the reset values (assumptions 1, 4, 6, 8 and 10). -/

namespace Sys2Proof.Machine

/-! ### One step -/

/-- Settles O1: by the definition of a step. -/
theorem stepRunsFrontOfQueue : Obligations.StepRunsFrontOfQueue := fun _ _ _ => rfl

theorem step_of_idle {s : State} (empty : s.pending = []) (idle : s.due = []) : step s = .next s.tick := by
  simp [step, empty, State.nextDue, idle]

theorem step_of_single {s : State} {i : Instr} (empty : s.pending = []) (single : s.due = [i]) : step s = exec i s := by
  simp [step, empty, State.nextDue, single]

theorem step_of_several {s : State} (empty : s.pending = []) (several : 1 < s.due.length) :
    ∃ i ∈ s.due, step s = exec i s.bumpFree := by
  match due : s.due with
  | [] => simp [due] at several
  | [i] => simp [due] at several
  | i :: j :: rest =>
    refine ⟨(i :: j :: rest).getD (Config.pickDue s.freeCount % ((j :: rest).length + 1)) i, ?_, ?_⟩
    · have inside : Config.pickDue s.freeCount % ((j :: rest).length + 1) < (i :: j :: rest).length := Nat.mod_lt _ (Nat.succ_pos _)
      rw [List.getD_eq_getElem _ _ inside]
      exact List.getElem_mem inside
    · simp only [step, empty, State.nextDue, due]

/-! ### What is due on a line (assumption 6) -/

/-- The first element that passes a test is one that passes and has none before it that does. -/
theorem find?_eq_some_iff_idxOf {α : Type} [DecidableEq α] {xs : List α} {test : α → Bool} {a : α} :
    xs.find? test = some a ↔ a ∈ xs ∧ test a = true ∧ ∀ b : α, xs.idxOf b < xs.idxOf a → test b = false := by
  induction xs with
  | nil => simp
  | cons x xs ih =>
    by_cases here : test x = true
    · rw [List.find?_cons_of_pos here]
      refine ⟨?_, fun ⟨_, _, before⟩ => ?_⟩
      · rintro ⟨⟩
        exact ⟨List.mem_cons_self, here, fun b earlier => by simp [List.idxOf_cons_self] at earlier⟩
      · by_contra other
        have ne : x ≠ a := fun same => other (same ▸ rfl)
        have := before x (by rw [List.idxOf_cons_self, List.idxOf_cons_ne _ ne]; exact Nat.succ_pos _)
        exact absurd (here.symm.trans this) (by decide)
    · rw [List.find?_cons_of_neg here, ih]
      refine ⟨fun ⟨member, passes, before⟩ => ⟨List.mem_cons_of_mem _ member, passes, fun b earlier => ?_⟩,
        fun ⟨member, passes, before⟩ => ?_⟩
      · have ne : x ≠ a := fun same => here (same ▸ passes)
        by_cases first : x = b
        · exact first ▸ by simpa using here
        · rw [List.idxOf_cons_ne _ first, List.idxOf_cons_ne _ ne] at earlier
          exact before b (Nat.lt_of_succ_lt_succ earlier)
      · have ne : x ≠ a := fun same => here (same ▸ passes)
        refine ⟨(List.mem_cons.mp member).resolve_left fun same => ne same.symm, passes, fun b earlier => ?_⟩
        by_cases first : x = b
        · exact first ▸ by simpa using here
        · exact before b (by rw [List.idxOf_cons_ne _ first, List.idxOf_cons_ne _ ne]; exact Nat.succ_lt_succ earlier)

theorem lineDue_eq_find? (v : Circuit) : v.lineDue = lineOrder.find? v.stepDue := by
  simp only [Circuit.lineDue, lineOrder, List.find?_cons, List.find?_nil, Circuit.stepDue]
  split_ifs <;> simp [*]

theorem framerWorks_iff (v : Circuit) : v.framerActive = true ↔ v.state ≠ .closed ∧ v.layoutD.mode = .structured := by
  rw [framerActive_iff, isOpen_iff]

theorem stepDue_iff_asked (v : Circuit) (k : LineStep) : v.stepDue k = true ↔ k.asked v := by
  cases k with
  | losSet => simp [Circuit.stepDue, Circuit.losSetDue, LineStep.asked]
  | aisSpanEnd => simp [Circuit.stepDue, Circuit.aisSpanDue, LineStep.asked]
  | lossOfAlignment => exact (lossDue_iff v).trans (by rw [framerWorks_iff]; rfl)
  | search => exact (searchDue_iff v).trans (by rw [framerWorks_iff]; rfl)
  | verify =>
    refine (verifyDue_iff v).trans ?_
    rw [framerWorks_iff, Nat.add_assoc, ite_add]
    rfl
  | compare => simp [Circuit.stepDue, Circuit.compareDue, LineStep.asked, framerWorks_iff, and_assoc]
  | boundary => simp [Circuit.stepDue, Circuit.boundaryDue, LineStep.asked]
  | losClear => simp [Circuit.stepDue, Circuit.losClearDue, LineStep.asked]

theorem lineDue_eq_some_iff (v : Circuit) (k : LineStep) : v.lineDue = some k ↔ k.isNext v := by
  have every : ∀ j : LineStep, j ∈ lineOrder := by
    intro j
    cases j <;> decide
  rw [lineDue_eq_find?, find?_eq_some_iff_idxOf, LineStep.isNext]
  simp only [every, true_and, ← stepDue_iff_asked, Bool.not_eq_true]

/-! ### The timers and requests -/

theorem hasRun_iff (s : State) (timer : Option Time) (units : Nat) :
    s.hasRun timer units ↔ ∃ start, timer = some start ∧ units ≤ elapsed start s.localTime := Iff.rfl

theorem startUpDue_iff (s : State) : s.startUpDue = true ↔ s.hasRun s.startUpFrom 10000 := by
  unfold State.startUpDue
  cases s.startUpFrom with
  | none => simp [hasRun_iff]
  | some start =>
    simp only [decide_eq_true_eq, hasRun_iff, Option.some.injEq, exists_eq_left']
    rfl

theorem crstExpired_iff (s : State) (p : Port) :
    (s.supUnit p).crstExpired s.localTime = true ↔ s.hasRun (s.supUnit p).crstTimer 100000 := by
  unfold SupUnit.crstExpired
  cases (s.supUnit p).crstTimer with
  | none => simp [hasRun_iff]
  | some start =>
    simp only [decide_eq_true_eq, hasRun_iff, Option.some.injEq, exists_eq_left']
    rfl

theorem absenceDue_iff (s : State) : s.absenceDue = true ↔ s.hasRun s.ref.absenceTimer 100 := by
  unfold State.absenceDue
  cases s.ref.absenceTimer with
  | none => simp [hasRun_iff]
  | some start =>
    simp only [decide_eq_true_eq, hasRun_iff, Option.some.injEq, exists_eq_left']
    rfl

theorem windowDue_isSome_iff (s : State) :
    s.windowDue.isSome = true ↔ s.hasRun (s.ref.window.map RefWindow.start) 10000000 := by
  unfold State.windowDue
  cases s.ref.window with
  | none => simp [hasRun_iff]
  | some w =>
    simp only [hasRun_iff, Option.map_some, Option.some.injEq, exists_eq_left', Option.isSome_ite]
    rfl

theorem windowExpired_iff (s : State) (p : Port) :
    (s.supUnit p).windowExpired s.localTime = true ↔
      ((s.supUnit p).state = .awaitAnswer ∧ s.hasRun (s.supUnit p).windowTimer
          (((s.supUnit p).settings.answerClose + (s.supUnit p).settings.answerGrace) * 10000))
        ∨ ((s.supUnit p).state = .awaitFetch ∧ s.hasRun (s.supUnit p).windowTimer
          (((s.supUnit p).settings.fetchClose + (s.supUnit p).settings.fetchGrace) * 10000)) := by
  generalize s.supUnit p = u
  unfold SupUnit.windowExpired SupUnit.windowUnits SupUnit.windowElapsed
  cases u.windowTimer with
  | none => simp [hasRun_iff]
  | some start =>
    simp only [Bool.and_eq_true, decide_eq_true_eq, hasRun_iff, Option.some.injEq, exists_eq_left', Option.isSome_some, and_true]
    cases u.state with
    | idle => simp
    | awaitAnswer => exact ⟨fun h => .inl ⟨rfl, h.2⟩, fun h => ⟨nofun, h.elim And.right (fun other => nomatch other.1)⟩⟩
    | awaitFetch => exact ⟨fun h => .inr ⟨rfl, h.2⟩, fun h => ⟨nofun, h.elim (fun other => nomatch other.1) And.right⟩⟩

theorem acqTimerDue_iff (s : State) (c : CircuitId) :
    s.acqTimerDue c = true ↔ (s.circuit c).state = .acquiring ∧ (s.circuit c).requests.acquisitionComplete = false
      ∧ s.hasRun (s.circuit c).cursor.acqTimer ((s.circuit c).layoutD.acqLimit * 100000) := by
  unfold State.acqTimerDue
  dsimp only
  cases (s.circuit c).cursor.acqTimer with
  | none => simp [hasRun_iff]
  | some start =>
    simp only [Bool.and_eq_true, decide_eq_true_eq, Bool.not_eq_true', hasRun_iff, Option.some.injEq, exists_eq_left', and_assoc]
    rfl

theorem probeTimerDue_iff (s : State) (c : CircuitId) :
    s.probeTimerDue c = true ↔ (s.circuit c).state ≠ .closed ∧ (s.circuit c).probeSet.interval ≠ 0
      ∧ s.hasRun (s.circuit c).probing.timer ((s.circuit c).probeSet.interval * 100000) := by
  unfold State.probeTimerDue
  dsimp only
  cases (s.circuit c).probing.timer with
  | none => simp [hasRun_iff]
  | some start =>
    simp only [Bool.and_eq_true, decide_eq_true_eq, isOpen_iff, hasRun_iff, Option.some.injEq, exists_eq_left', and_assoc]
    rfl

theorem frameReady_iff (u : PortUnit) :
    u.frameReady = true ↔ u.phase = .command ∧ ∃ (code length : Octet) (rest : List Octet),
      u.partialFrame = code :: length :: rest ∧ length.toNat ≤ rest.length := by
  unfold PortUnit.frameReady frameComplete
  match u.partialFrame with
  | [] => simp
  | [_] => simp
  | code :: length :: rest => simp

theorem departureDue_iff (u : PathUnit) : u.departureDue = true ↔ u.linkUp = true ∧ u.macBusyNs < 100 ∧ u.queue ≠ [] := by
  rw [PathUnit.departureDue, Bool.and_eq_true, Bool.and_eq_true, decide_eq_true_eq, Bool.not_eq_true', and_assoc,
    List.isEmpty_eq_false_iff]
  rfl

theorem drainExpired_iff (v : Circuit) : v.drainExpired = true ↔ v.state = .closing ∧ v.drainRemaining = 0 := by
  simp [Circuit.drainExpired]

theorem clockLossDue_iff (v : Circuit) : v.clockLossDue = true ↔ v.line.crystal = false ∧ 20000 ≤ v.line.rxPhase := by
  rw [Circuit.clockLossDue, Bool.and_eq_true, decide_eq_true_eq, Bool.not_eq_true']
  rfl

theorem crystalBitDue_iff (v : Circuit) : v.crystalBitDue = true ↔ v.line.crystal = true ∧ 10000 ≤ v.line.rxPhase := by
  rw [Circuit.crystalBitDue, Bool.and_eq_true, decide_eq_true_eq]
  rfl

theorem transmitDue_iff (v : Circuit) : v.transmitDue = true ↔ 1250000000000 ≤ v.line.txPhase := by
  rw [Circuit.transmitDue, decide_eq_true_eq]
  rfl

/-! ### All that is due -/

theorem mem_dueIf {b : Bool} {i j : Instr} : i ∈ dueIf b j ↔ b = true ∧ i = j := by
  cases b <;> simp [dueIf]

theorem mem_transitDue (s : State) (p : Port) (i : Instr) :
    i ∈ s.transitDue p ↔ (∃ f : CommandFrame, s.transit.get p = some (.atOwner f) ∧ commandOf f.code p = some i)
      ∨ ((∃ r : List Octet, s.transit.get p = some (.returning r))
        ∧ ((s.port p).orphan = true ∨ ((s.port p).phase = .executing ∧ (s.port p).inFlight.isSome = true)) ∧ i = .resultArrival p) := by
  unfold State.transitDue
  split
  · next f there => simp [there, Option.mem_toList]
  · next r there => simp [there, mem_dueIf]
  · next none_ => simp [none_]

theorem mem_portDue (s : State) (p : Port) (i : Instr) :
    i ∈ s.portDue p ↔ ((s.port p).frameReady = true ∧ i = .commandFrameComplete p) ∨ i ∈ s.transitDue p
      ∨ ((s.supUnit p).windowExpired s.localTime = true ∧ i = .windowTimerExpiry p)
      ∨ ((s.supUnit p).crstExpired s.localTime = true ∧ i = .crstTimerExpiry p) := by
  simp only [State.portDue, List.mem_append, mem_dueIf, or_assoc]

theorem mem_circuitDue (s : State) (c : CircuitId) (i : Instr) :
    i ∈ s.circuitDue c ↔ ((s.circuit c).requests.acquisitionComplete = true ∧ i = .acquisitionComplete c)
      ∨ ((s.circuit c).requests.underrun.isSome = true ∧ i = .underrun c)
      ∨ ((s.circuit c).requests.overrun.isSome = true ∧ i = .overrun c)
      ∨ ((s.circuit c).requests.drainComplete = true ∧ i = .drainComplete c)
      ∨ ((s.circuit c).drainExpired = true ∧ i = .drainLimitExpiry c)
      ∨ (s.acqTimerDue c = true ∧ i = .acquisitionTimerExpiry c)
      ∨ (s.probeTimerDue c = true ∧ i = .probeTimerExpiry c)
      ∨ ((s.circuit c).clockLossDue = true ∧ i = .receiveClockLoss c)
      ∨ ((s.circuit c).crystalBitDue = true ∧ i = .receiveBitPeriod c false)
      ∨ (∃ k : LineStep, (s.circuit c).lineDue = some k ∧ k.instr c = i)
      ∨ ((s.circuit c).transmitDue = true ∧ i = .transmitFrameBoundary c) := by
  simp only [State.circuitDue, List.mem_append, mem_dueIf, or_assoc, Option.mem_toList, Option.map_eq_some_iff]

theorem mem_due (s : State) (i : Instr) :
    i ∈ s.due ↔ (s.startUpDue = true ∧ i = .startUpEnd) ∨ (∃ p, i ∈ s.portDue p) ∨ (∃ c, i ∈ s.circuitDue c)
      ∨ (∃ π, (s.pathUnit π).departureDue = true ∧ i = .frameDeparture π)
      ∨ (s.windowDue.isSome = true ∧ i = .referenceWindowCompletion) ∨ (s.absenceDue = true ∧ i = .absenceExpiry) := by
  have ports : (∃ p, i ∈ s.portDue p) ↔ i ∈ s.portDue .cp0 ∨ i ∈ s.portDue .cp1 :=
    ⟨fun ⟨p, h⟩ => by cases p with | cp0 => exact .inl h | cp1 => exact .inr h, fun h => h.elim (⟨_, ·⟩) (⟨_, ·⟩)⟩
  have paths : (∃ π, (s.pathUnit π).departureDue = true ∧ i = .frameDeparture π)
      ↔ ((s.pathUnit .x).departureDue = true ∧ i = .frameDeparture .x) ∨ ((s.pathUnit .y).departureDue = true ∧ i = .frameDeparture .y) :=
    ⟨fun ⟨π, h⟩ => by cases π with | x => exact .inl h | y => exact .inr h, fun h => h.elim (⟨_, ·⟩) (⟨_, ·⟩)⟩
  simp only [State.due, List.mem_append, mem_dueIf, or_assoc, List.mem_flatMap, allCircuits, List.mem_finRange, true_and, ports, paths]

theorem dueNow_instr {s : State} {c : CircuitId} {k : LineStep} (next : k.isNext (s.circuit c)) : DueNow s (k.instr c) := by
  cases k <;> exact .inr next

theorem dueNow_of_mem {s : State} {i : Instr} (h : i ∈ s.due) : DueNow s i := by
  obtain ⟨due, rfl⟩ | ⟨p, port⟩ | ⟨c, circuit⟩ | ⟨π, due, rfl⟩ | ⟨due, rfl⟩ | ⟨due, rfl⟩ := (mem_due s i).mp h
  · exact .inr ((startUpDue_iff s).mp due)
  · obtain ⟨ready, rfl⟩ | transit | ⟨due, rfl⟩ | ⟨due, rfl⟩ := (mem_portDue s p i).mp port
    · exact .inr ((frameReady_iff _).mp ready)
    · obtain ⟨f, there, names⟩ | ⟨returning, awaited, rfl⟩ := (mem_transitDue s p i).mp transit
      · exact .inl ⟨p, f, there, names⟩
      · exact .inr ⟨returning, awaited⟩
    · exact .inr ((windowExpired_iff s p).mp due)
    · exact .inr ((crstExpired_iff s p).mp due)
  · obtain ⟨due, rfl⟩ | ⟨due, rfl⟩ | ⟨due, rfl⟩ | ⟨due, rfl⟩ | ⟨due, rfl⟩ | ⟨due, rfl⟩ | ⟨due, rfl⟩ | ⟨due, rfl⟩ | ⟨due, rfl⟩
      | ⟨k, due, rfl⟩ | ⟨due, rfl⟩ := (mem_circuitDue s c i).mp circuit
    · exact .inr due
    · exact .inr (Option.isSome_iff_ne_none.mp due)
    · exact .inr (Option.isSome_iff_ne_none.mp due)
    · exact .inr due
    · exact .inr ((drainExpired_iff _).mp due)
    · exact .inr ((acqTimerDue_iff s c).mp due)
    · exact .inr ((probeTimerDue_iff s c).mp due)
    · exact .inr ((clockLossDue_iff _).mp due)
    · exact .inr ⟨rfl, (crystalBitDue_iff _).mp due⟩
    · exact dueNow_instr ((lineDue_eq_some_iff _ k).mp due)
    · exact .inr ((transmitDue_iff _).mp due)
  · exact .inr ((departureDue_iff _).mp due)
  · exact .inr ((windowDue_isSome_iff s).mp due)
  · exact .inr ((absenceDue_iff s).mp due)

theorem mem_due_of_portDue {s : State} {p : Port} {i : Instr} (h : i ∈ s.portDue p) : i ∈ s.due := (mem_due s i).mpr (.inr (.inl ⟨p, h⟩))

theorem mem_due_of_circuitDue {s : State} {c : CircuitId} {i : Instr} (h : i ∈ s.circuitDue c) : i ∈ s.due :=
  (mem_due s i).mpr (.inr (.inr (.inl ⟨c, h⟩)))

theorem mem_due_of_isNext {s : State} {c : CircuitId} {k : LineStep} (next : k.isNext (s.circuit c)) : k.instr c ∈ s.due :=
  mem_due_of_circuitDue ((mem_circuitDue ..).mpr (.inr (.inr (.inr (.inr (.inr (.inr (.inr (.inr (.inr (.inl
    ⟨k, (lineDue_eq_some_iff _ k).mpr next, rfl⟩)))))))))))

theorem mem_due_of_dueNow {s : State} {i : Instr} (h : DueNow s i) : i ∈ s.due := by
  obtain ⟨p, f, there, names⟩ | rule := h
  · exact mem_due_of_portDue ((mem_portDue ..).mpr (.inr (.inl ((mem_transitDue ..).mpr (.inl ⟨f, there, names⟩)))))
  cases i with
  | startUpEnd => exact (mem_due ..).mpr (.inl ⟨(startUpDue_iff s).mpr rule, rfl⟩)
  | commandFrameComplete p => exact mem_due_of_portDue ((mem_portDue ..).mpr (.inl ⟨(frameReady_iff _).mpr rule, rfl⟩))
  | resultArrival p =>
    obtain ⟨returning, awaited⟩ := rule
    exact mem_due_of_portDue ((mem_portDue ..).mpr (.inr (.inl ((mem_transitDue ..).mpr (.inr ⟨returning, awaited, rfl⟩)))))
  | windowTimerExpiry p =>
    exact mem_due_of_portDue ((mem_portDue ..).mpr (.inr (.inr (.inl ⟨(windowExpired_iff s p).mpr rule, rfl⟩))))
  | crstTimerExpiry p => exact mem_due_of_portDue ((mem_portDue ..).mpr (.inr (.inr (.inr ⟨(crstExpired_iff s p).mpr rule, rfl⟩))))
  | acquisitionComplete c => exact mem_due_of_circuitDue ((mem_circuitDue ..).mpr (.inl ⟨rule, rfl⟩))
  | underrun c =>
    exact mem_due_of_circuitDue ((mem_circuitDue ..).mpr (.inr (.inl ⟨Option.isSome_iff_ne_none.mpr rule, rfl⟩)))
  | overrun c =>
    exact mem_due_of_circuitDue ((mem_circuitDue ..).mpr (.inr (.inr (.inl ⟨Option.isSome_iff_ne_none.mpr rule, rfl⟩))))
  | drainComplete c => exact mem_due_of_circuitDue ((mem_circuitDue ..).mpr (.inr (.inr (.inr (.inl ⟨rule, rfl⟩)))))
  | drainLimitExpiry c =>
    exact mem_due_of_circuitDue ((mem_circuitDue ..).mpr (.inr (.inr (.inr (.inr (.inl ⟨(drainExpired_iff _).mpr rule, rfl⟩))))))
  | acquisitionTimerExpiry c =>
    exact mem_due_of_circuitDue ((mem_circuitDue ..).mpr (.inr (.inr (.inr (.inr (.inr (.inl
      ⟨(acqTimerDue_iff s c).mpr rule, rfl⟩)))))))
  | probeTimerExpiry c =>
    exact mem_due_of_circuitDue ((mem_circuitDue ..).mpr (.inr (.inr (.inr (.inr (.inr (.inr (.inl
      ⟨(probeTimerDue_iff s c).mpr rule, rfl⟩))))))))
  | receiveClockLoss c =>
    exact mem_due_of_circuitDue ((mem_circuitDue ..).mpr (.inr (.inr (.inr (.inr (.inr (.inr (.inr (.inl
      ⟨(clockLossDue_iff _).mpr rule, rfl⟩)))))))))
  | receiveBitPeriod c mark =>
    obtain ⟨rfl, passed⟩ := rule
    exact mem_due_of_circuitDue ((mem_circuitDue ..).mpr (.inr (.inr (.inr (.inr (.inr (.inr (.inr (.inr (.inl
      ⟨(crystalBitDue_iff _).mpr passed, rfl⟩))))))))))
  | losSet c => exact mem_due_of_isNext (k := .losSet) rule
  | aisSpanEnd c => exact mem_due_of_isNext (k := .aisSpanEnd) rule
  | lossOfAlignment c => exact mem_due_of_isNext (k := .lossOfAlignment) rule
  | framerSearchOctet c => exact mem_due_of_isNext (k := .search) rule
  | framerVerifyTest c => exact mem_due_of_isNext (k := .verify) rule
  | framerAlignedCompare c => exact mem_due_of_isNext (k := .compare) rule
  | receiveFrameBoundary c => exact mem_due_of_isNext (k := .boundary) rule
  | losClear c => exact mem_due_of_isNext (k := .losClear) rule
  | transmitFrameBoundary c =>
    exact mem_due_of_circuitDue ((mem_circuitDue ..).mpr (.inr (.inr (.inr (.inr (.inr (.inr (.inr (.inr (.inr (.inr
      ⟨(transmitDue_iff _).mpr rule, rfl⟩)))))))))))
  | frameDeparture π => exact (mem_due ..).mpr (.inr (.inr (.inr (.inl ⟨π, (departureDue_iff _).mpr rule, rfl⟩))))
  | referenceWindowCompletion =>
    exact (mem_due ..).mpr (.inr (.inr (.inr (.inr (.inl ⟨(windowDue_isSome_iff s).mpr rule, rfl⟩)))))
  | absenceExpiry => exact (mem_due ..).mpr (.inr (.inr (.inr (.inr (.inr ⟨(absenceDue_iff s).mpr rule, rfl⟩)))))
  | _ => exact rule.elim

theorem State.tick_pathUnit (s : State) (π : Path) : s.tick.pathUnit π = (s.pathUnit π).tick := by cases π <;> rfl

/-- Settles O2: by the length of the list of what is due, whose members are those due by their rules. -/
theorem stepOnEmptyQueue : Obligations.StepOnEmptyQueue := by
  intro s empty
  refine ⟨fun idle => ⟨s.tick, step_of_idle empty idle, rfl, fun c => ?_, fun π => s.tick_pathUnit π, rfl⟩,
    fun i single => step_of_single empty single, fun several => step_of_several empty several,
    fun i => ⟨dueNow_of_mem, mem_due_of_dueNow⟩⟩
  rw [State.tick_circuit]
  rfl

/-- Settles O3: device reset gives the reset state, with the link pins and the model's own two fields kept. -/
theorem deviceResetValues : Obligations.DeviceResetValues := by
  intro s
  have circuit : ∀ c, s.deviceReset.circuit c = .reset := resetWith_circuit ⟨s.paths.x.linkPin, s.paths.y.linkPin⟩
  refine ⟨s.deviceReset, rfl, rfl, rfl, rfl, rfl, rfl, fun p => ?_, fun p => ?_, rfl, rfl, fun c => ?_, fun c π => ?_, fun c => ?_,
    fun π => ?_, rfl, rfl, rfl⟩
  · cases p <;> repeat' constructor
  · cases p <;> repeat' constructor
  · simp only [circuit]
    repeat' constructor
  · simp only [circuit]
    cases π <;> repeat' constructor
  · simp only [circuit]
    repeat' constructor
  · cases π <;> repeat' constructor

end Sys2Proof.Machine
end

section
/-! The attention queues and the control ports (chapters 9 and 11). -/

namespace Sys2Proof.Machine

variable {p : Port} {s : State}

/-! ### Attention (R170) -/

/-- Settles O4: by whether the queue has a record of the source and kind. -/
theorem attentionPostTaken : Obligations.AttentionPostTaken := by
  refine ⟨fun u src kind value now => ⟨fun known => ?_, fun fresh => ⟨fun full => ?_, fun room => ?_⟩⟩,
    fun s src kind value => ⟨rfl, fun p => rfl⟩⟩
  · rw [AttnUnit.take_merge _ _ _ _ _ known]
    refine ⟨rfl, List.length_map _, fun i r there => ?_⟩
    simp only [List.getElem?_map, there, Option.map_some, AttnRecord.isOf, AttnRecord.merge, Bool.and_eq_true, decide_eq_true_eq]
  · rw [AttnUnit.take_new _ _ _ _ _ fresh, if_pos full]
  · rw [AttnUnit.take_new _ _ _ _ _ fresh, if_neg (Nat.not_le.mpr room)]

/-! ### The status octet (R55) -/

/-- The status octet of a port by what it shows. -/
def statusBits (phase : Phase) (framing ignored attention holds eligible supervising : Bool) : Octet :=
  let bit (n : Nat) (b : Bool) : Nat := if b then n else 0
  match phase with
  | .startUp => octet (0x40 + bit 8 attention)
  | phase => octet (phaseCode phase * 0x40 + bit 0x20 framing + bit 0x10 ignored + bit 8 attention + bit 4 holds + bit 2 eligible
      + bit 1 supervising)

theorem statusOctet_eq (s : State) (p : Port) :
    s.statusOctet p = statusBits (s.port p).phase (s.port p).framing (s.port p).ignored (s.attention p) (decide (s.holder = some p))
      (s.supUnit p).eligible (decide ((s.supUnit p).state ≠ .idle)) := by
  cases phase : (s.port p).phase <;> simp only [State.statusOctet, statusBits, phase]

theorem octetBits_statusBits (phase : Phase) (framing ignored attention holds eligible supervising : Bool) :
    octetBits (statusBits phase framing ignored attention holds eligible supervising) =
      [decide (phase = .result), decide (phase = .executing ∨ phase = .startUp), framing && decide (phase ≠ .startUp),
       ignored && decide (phase ≠ .startUp), attention, holds && decide (phase ≠ .startUp), eligible && decide (phase ≠ .startUp),
       supervising && decide (phase ≠ .startUp)] := by
  revert framing ignored attention holds eligible supervising
  cases phase <;> decide

theorem attention_iff (s : State) (p : Port) : s.attention p = true ↔ (s.attnUnit p).queue ≠ [] := by
  rw [State.attention, Bool.not_eq_true', List.isEmpty_eq_false_iff]

/-- Settles O7: bit by bit. -/
theorem statusOctetShows : Obligations.StatusOctetShows := by
  intro s
  have bits : ∀ p : Port, octetBits (s.statusOctet p) = _ := fun p =>
    (congrArg octetBits (statusOctet_eq s p)).trans (octetBits_statusBits ..)
  simp only [octetBits, List.cons.injEq, and_true] at bits
  refine ⟨fun p => ?_, ?_⟩
  · obtain ⟨seven, six, five, four, three, two, one, zero⟩ := bits p
    dsimp only
    rw [seven, six, five, four, three, two, one, zero]
    simp only [Bool.and_eq_true, decide_eq_true_eq, true_and, and_true]
    exact ⟨attention_iff s p, rfl⟩
  · rintro ⟨first, second⟩
    obtain ⟨-, -, -, -, -, two, -⟩ := bits .cp0
    obtain ⟨-, -, -, -, -, two', -⟩ := bits .cp1
    rw [two, Bool.and_eq_true, decide_eq_true_eq] at first
    rw [two', Bool.and_eq_true, decide_eq_true_eq] at second
    exact nomatch first.1.symm.trans second.1

/-! ### The exchange of a port as one update -/

@[simp] theorem setPort_self (s : State) (p : Port) : s.setPort p (s.port p) = s := by simp [State.setPort, State.port]

theorem setTransit_setPort (s : State) (p : Port) (u : PortUnit) (x : Option Transit) :
    (s.setTransit p x).setPort p u = (s.setPort p u).setTransit p x := rfl

@[simp] theorem setTransit_setTransit (s : State) (p : Port) (x y : Option Transit) :
    (s.setTransit p x).setTransit p y = s.setTransit p y := by simp [State.setTransit]

theorem handOn_eq (s : State) (p : Port) (f : CommandFrame) :
    s.handOn p f = s.setTransit p
      (some (if privileged f.code = true ∧ s.holder ≠ some p then .returning [0x04, 0x00] else .atOwner f)) := by
  unfold State.handOn
  simp only [Bool.and_eq_true, decide_eq_true_eq]
  split <;> rfl

/-! ### Transactions (R144 to R148) -/

/-- Settles O6: by whether RESET_N is asserted. -/
theorem transactionStartFixesContext : Obligations.TransactionStartFixesContext := by
  intro p s
  refine ⟨fun released idle => ?_, fun asserted => ?_⟩
  · show Host.Outcome.next ((s.settlePort p).startTransaction p) = _
    simp [State.startTransaction, released, idle]
  · show Host.Outcome.next ((s.settlePort p).startTransaction p) = _
    simp [State.startTransaction, asserted]

theorem givesResult_iff (t : Transaction) :
    t.givesResult = true ↔ t.phaseAtStart = .result ∧ t.statusSent = true ∧ t.voided = false := by
  simp [Transaction.givesResult, and_assoc]

/-- The octet of CDO in a transaction, with RESET_N released (R145, R146). -/
theorem cdoOctet_of_transaction {t : Transaction} (inProgress : (s.port p).transaction = some t) (released : s.resetAsserted = false) :
    s.cdoOctet p = if t.statusSent = false then t.status
      else if t.givesResult then ((s.port p).result.map fun r => r.getD (s.port p).readPos 0).getD 0 else 0 := by
  unfold State.cdoOctet
  simp only [inProgress, released, Bool.false_eq_true, if_false, Bool.not_eq_true']
  cases (s.port p).result <;> rfl

theorem execStatusOctetSent_of_unsent {t : Transaction} (inProgress : (s.port p).transaction = some t) (unsent : t.statusSent = false) :
    exec (.statusOctetSent p) s = .next (s.setPort p ((s.port p).statusSent t)) := by
  show execStatusOctetSent p s = _
  simp [execStatusOctetSent, inProgress, unsent]

theorem execResultOctetSent_of_given {t : Transaction} {r : List Octet} (inProgress : (s.port p).transaction = some t)
    (given : t.givesResult = true) (pending : (s.port p).result = some r) :
    exec (.resultOctetSent p) s = .next (s.setPort p ((s.port p).resultOctetSent r)) := by
  show execResultOctetSent p s = _
  simp [execResultOctetSent, inProgress, pending, given]

theorem statusSent_eq (u : PortUnit) (t : Transaction) :
    u.statusSent t = { u with
      framing := if t.status.getLsbD 5 then false else u.framing,
      ignored := if t.status.getLsbD 4 then false else u.ignored,
      transaction := some { t with statusSent := true } } := by
  unfold PortUnit.statusSent
  cases t.status.getLsbD 5 <;> cases t.status.getLsbD 4 <;> simp

/-- Settles O8: the octet of CDO and the two octets that are consumed. -/
theorem outputOctetsConsumed : Obligations.OutputOctetsConsumed := by
  refine ⟨fun p s outside => ?_, fun p t s inProgress => ⟨fun released => ⟨fun unsent => ?_, fun sent none_ => ?_,
    fun sent began valid r pending inside => ?_⟩, fun unsent => ?_, fun sent began valid r pending => ⟨fun more => ?_, fun last => ?_⟩⟩⟩
  · unfold State.cdoOctet
    dsimp only
    split
    · rfl
    · next t inProgress => rw [if_pos (outside.resolve_right fun is => nomatch is.symm.trans inProgress)]
  · rw [cdoOctet_of_transaction inProgress released, if_pos unsent]
  · rw [cdoOctet_of_transaction inProgress released, if_neg (by simp [sent])]
    split
    · next gives =>
      obtain ⟨began, -, valid⟩ := (givesResult_iff t).mp gives
      obtain other | void | absent := none_
      · exact absurd began other
      · exact absurd (valid.symm.trans void) (by decide)
      · rw [absent]
        rfl
    · rfl
  · rw [cdoOctet_of_transaction inProgress released, if_neg (by simp [sent]), if_pos ((givesResult_iff t).mpr ⟨began, sent, valid⟩),
      pending]
    simp [List.getElem?_eq_getElem inside]
  · rw [execStatusOctetSent_of_unsent inProgress unsent, statusSent_eq]
  · rw [execResultOctetSent_of_given inProgress ((givesResult_iff t).mpr ⟨began, sent, valid⟩) pending, PortUnit.resultOctetSent,
      if_neg (by omega)]
  · rw [execResultOctetSent_of_given inProgress ((givesResult_iff t).mpr ⟨began, sent, valid⟩) pending, PortUnit.resultOctetSent,
      if_pos (by omega)]

/-- Settles O9: by the access kind, and in a write transaction by the phase at start. -/
theorem writtenOctetTaken : Obligations.WrittenOctetTaken := by
  intro p o s t s' u inProgress
  have input : exec (.writtenOctet p o) s = .next (s'.setPort p (u.inputOctet t o)) := by
    show Host.Outcome.next ((s.settlePort p).inputOctet p o) = _
    rw [State.inputOctet, show ((s.settlePort p).port p).transaction = some t from inProgress]
  refine ⟨fun first => ?_, fun read => ?_, fun write discarded => ?_, fun write valid began open_ => ?_, fun write valid other => ?_⟩
  · rw [input, PortUnit.inputOctet, first]
    rfl
  · rw [input, PortUnit.inputOctet, read]
  · rw [input, PortUnit.inputOctet, write]
    dsimp only
    unfold PortUnit.writtenOctet
    obtain void | startUp := discarded
    · rw [if_pos void]
    · rw [startUp]
      split <;> rfl
  · rw [input, PortUnit.inputOctet, write]
    simp [PortUnit.writtenOctet, valid, began, open_]
  · rw [input, PortUnit.inputOctet, write]
    obtain executing | result | ⟨command, taken⟩ := other
    · simp [PortUnit.writtenOctet, valid, executing]
    · simp [PortUnit.writtenOctet, valid, result]
    · simp [PortUnit.writtenOctet, valid, command, taken]

/-- Settles O10: by whether a partial frame is there. -/
theorem transactionEndDiscardsPartial : Obligations.TransactionEndDiscardsPartial := by
  intro p s s' u inProgress
  have ended : exec (.transactionEnd p) s = .next (s'.setPort p u.endTransaction) := by
    show Host.Outcome.next ((s.settlePort p).endTransaction p) = _
    rw [State.endTransaction, if_pos inProgress]
  refine ⟨fun empty => ?_, fun partial_ => ?_⟩
  · rw [ended, PortUnit.endTransaction, if_pos (List.isEmpty_iff.mpr empty)]
  · rw [ended, PortUnit.endTransaction, if_neg (fun empty => partial_ (List.isEmpty_iff.mp empty))]

/-! ### Command codes (section 9.6) -/

theorem commandOf_eq_none_iff (code : Octet) (p : Port) :
    commandOf code p = none ↔
      code.toNat = 0x00 ∨ code.toNat = 0x07 ∨ (0x09 ≤ code.toNat ∧ code.toNat ≤ 0x0F) ∨ code.toNat = 0x1E ∨ code.toNat = 0x1F
        ∨ 0x23 ≤ code.toNat := by
  unfold commandOf
  split <;> simp only [imp_false, reduceCtorEq, true_iff, false_iff] at * <;> omega

theorem privileged_iff (code : Octet) :
    privileged code = true ↔ (0x10 ≤ code.toNat ∧ code.toNat ≤ 0x17) ∨ code.toNat = 0x20 ∨ code.toNat = 0x22 := by
  unfold privileged
  split <;> simp only [imp_false, Bool.false_eq_true, true_iff, false_iff] at * <;> omega

/-- Settles O11: by the two tables. -/
theorem commandCodeTable : Obligations.CommandCodeTable := by
  intro p
  refine ⟨fun code => ?_, fun code => ?_, rfl, rfl, rfl, rfl, rfl, rfl, rfl, rfl, rfl, rfl, rfl, rfl, rfl, rfl, rfl, rfl, rfl, rfl, rfl,
    rfl, rfl, rfl, rfl, rfl⟩
  · rw [commandOf_eq_none_iff]
    simp only [← BitVec.toNat_inj]
    rfl
  · rw [privileged_iff]
    simp only [← BitVec.toNat_inj]
    rfl

/-! ### Command frames and results (R147, R149, R150, R152) -/

theorem settlePort_of_incomplete (incomplete : (s.port p).frameReady = false) : s.settlePort p = s := by
  simp [State.settlePort, incomplete]

theorem settlePort_of_complete (ready : (s.port p).frameReady = true) : s.settlePort p = s.completeFrame p := if_pos ready

/-- After a frame was taken the port has left COMMAND and holds no partial frame. -/
theorem completeFrame_port (s : State) (p : Port) :
    ((s.completeFrame p).port p).phase ≠ .command ∧ ((s.completeFrame p).port p).partialFrame = [] := by
  unfold State.completeFrame
  dsimp only
  split_ifs
  · rw [State.port_setPort_self]
    exact ⟨nofun, rfl⟩
  · rw [State.port_setPort_self]
    exact ⟨nofun, rfl⟩
  · rw [handOn_eq, State.setTransit_port, State.port_setPort_self]
    exact ⟨nofun, rfl⟩

/-- A frame with its own length, whole in the partial frame, is the frame that the port completes. -/
theorem completeFrame_eq {code : Octet} {params : List Octet} (partial_ : (s.port p).partialFrame = code :: octet params.length :: params)
    (short : params.length ≤ 255) :
    s.completeFrame p =
      if commandOf code p = none then
        s.setPort p { (s.port p).frameTaken with phase := .result, result := some [0x01, 0x00], readPos := 0 }
      else if (s.port p).orphan = true then
        s.setPort p { (s.port p).frameTaken with phase := .executing, waiting := some ⟨code, params⟩ }
      else
        (s.setPort p { (s.port p).frameTaken with phase := .executing, inFlight := some ⟨code, params⟩ }).setTransit p
          (some (if privileged code = true ∧ s.holder ≠ some p then .returning [0x04, 0x00] else .atOwner ⟨code, params⟩)) := by
  have frame : frameOf (s.port p).partialFrame = ⟨code, params⟩ := by
    rw [partial_, frameOf, toNat_octet (by omega), List.take_length]
  unfold State.completeFrame
  simp only [frame, Option.isNone_iff_eq_none, handOn_eq, State.setPort_holder]
  rfl

/-- Settles O12: by what the port finds: an unknown code, an orphan outstanding, a privileged code without authority, or none of these. -/
theorem completeFrameHandedOn : Obligations.CompleteFrameHandedOn := by
  refine ⟨fun p s => ⟨rfl, fun incomplete => ?_, fun complete => ?_⟩, fun p code params s phase partial_ short => ?_⟩
  · exact settlePort_of_incomplete (by simpa using fun ready => incomplete ((frameReady_iff _).mp ready))
  · rw [settlePort_of_complete ((frameReady_iff _).mpr complete)]
    exact completeFrame_port s p
  · have ready : (s.port p).frameReady = true := by
      refine (frameReady_iff _).mpr ⟨phase, code, octet params.length, params, partial_, ?_⟩
      rw [toNat_octet (by omega)]
    have done : exec (.commandFrameComplete p) s = .next (s.completeFrame p) := congrArg Host.Outcome.next (settlePort_of_complete ready)
    rw [completeFrame_eq partial_ short] at done
    refine ⟨fun unknown => ?_, fun known orphan => ?_, fun known alone privileged_ other => ?_, fun known alone allowed => ?_⟩
    · rw [done, if_pos unknown]
      rfl
    · rw [done, if_neg known, if_pos orphan]
      rfl
    · rw [done, if_neg known, if_neg (by simp [alone]), if_pos ⟨privileged_, other⟩]
      rfl
    · rw [done, if_neg known, if_neg (by simp [alone]), if_neg]
      · rfl
      · rintro ⟨privileged_, other⟩
        exact allowed.elim (fun is => absurd (is.symm.trans privileged_) (by decide)) other

/-- Settles O13: in flight, or an orphan without and with a waiting frame. -/
theorem resultArrivalTaken : Obligations.ResultArrivalTaken := by
  intro p r s returning u
  have done : exec (.resultArrival p) s = .next (s.resultArrives p r) := by
    show execResultArrival p s = _
    simp [execResultArrival, returning]
  refine ⟨fun alone executing flight => ?_, fun orphan none_ => ?_, fun orphan f waiting => ?_⟩
  · rw [done, State.resultArrives, if_neg (by rw [show (s.port p).orphan = false from alone]; decide), if_pos ⟨executing, flight⟩]
  · rw [done, State.resultArrives, if_pos orphan, show (s.port p).waiting = none from none_]
  · rw [done, State.resultArrives, if_pos orphan, show (s.port p).waiting = some f from waiting]
    dsimp only
    rw [handOn_eq, setTransit_setPort, setTransit_setTransit]
    rfl

/-- Settles O14: by the definitions of the two commands, with the 1 ms of START-UP. -/
theorem startUpAfterRelease : Obligations.StartUpAfterRelease := by
  intro s
  refine ⟨fun asserted => ⟨s.releaseReset, ?_, fun p => by cases p <;> rfl, rfl⟩, fun start noted passed =>
    ⟨s.endStartUp, ?_, fun p phase => ?_, fun p phase => ?_, rfl⟩⟩
  · exact congrArg Host.Outcome.next (if_pos asserted)
  · exact congrArg Host.Outcome.next (if_pos ((startUpDue_iff s).mpr ⟨start, noted, passed⟩))
  · cases p <;> exact if_pos phase
  · cases p <;> exact if_neg phase

/-- Settles O15: by the phase of the port, and in EXECUTING by whether a frame waits. -/
theorem controllerResetAtPort : Obligations.ControllerResetAtPort := by
  intro p s s' u void
  have reset : s.controllerResetAtPort p = s'.setPort p u.controllerReset := rfl
  rw [reset]
  unfold PortUnit.controllerReset
  refine ⟨fun command => ?_, fun executing none_ flight => ?_, fun executing waits => ?_, fun result => ?_⟩
  · rw [command]
  · rw [executing, none_, flight, Bool.or_true]
  · obtain ⟨f, waiting⟩ := Option.isSome_iff_exists.mp waits
    rw [executing, waiting]
  · rw [result]

end Sys2Proof.Machine
end

section
/-! Supervision and authority (chapter 10): steps, events, the four commands of a unit, its timers and the two authority commands. -/

namespace Sys2Proof.Machine

variable {p : Port} {s : State}

/-! ### A command served -/

/-- What the rule of a command makes of a frame of it is what the command does. -/
theorem exec_of_rule {command : Port → Instr} {code : Octet} {rule : Port → List Octet → State → State × List Octet}
    (served : ∀ p s, exec (command p) s = .next (serve p code (rule p) s)) {ps result : List Octet} {t : State}
    (frame : s.frameAtOwner p code ps) (done : rule p ps s = (t, result)) : exec (command p) s = .next (t.answers p result) := by
  rw [served, serve_atOwner _ frame, done]
  rfl

/-! ### Steps, eligibility and windows (R158, R162) -/

theorem judge_eligible (u : SupUnit) :
    (u.eligible = false → (u.judge.eligible = true ↔ u.settings.high ≤ u.standing))
      ∧ (u.eligible = true → (u.judge.eligible = false ↔ u.standing < u.settings.low)) := by
  unfold SupUnit.judge
  refine ⟨fun was => ?_, fun was => ?_⟩
  · simp [was]
  · simp [was]

/-- A bad step written out: the step, the judgement, and ZERO_REACHED where standing ends at 0. -/
theorem stepBad_eq_judge (u : SupUnit) :
    u.stepBad = { ({ u with standing := u.standing - u.settings.badStep } : SupUnit).judge with
      flags := if u.standing ≤ u.settings.badStep then u.flags ||| 0x0100#16 else u.flags } := by
  unfold SupUnit.stepBad
  simp only [SupUnit.judge, Nat.sub_eq_zero_iff_le]
  split <;> rfl

theorem stepBad_settings (u : SupUnit) : u.stepBad.settings = u.settings := by
  rw [stepBad_eq_judge]
  rfl

theorem judgeWindow_iff (opens closes t : Nat) :
    (judgeWindow opens closes t = .early ↔ t < opens * 10000)
      ∧ (judgeWindow opens closes t = .inside ↔ (opens * 10000 ≤ t ∧ t ≤ closes * 10000))
      ∧ (judgeWindow opens closes t = .late ↔ (opens * 10000 ≤ t ∧ closes * 10000 < t)) := by
  have ms : Config.unitsPerMs = 10000 := rfl
  unfold judgeWindow
  split_ifs <;> simp only [ms, true_iff, false_iff] at * <;> omega

/-- Settles O16: each step is a new standing, judged; the window by its two comparisons. -/
theorem standingSteps : Obligations.StandingSteps := by
  refine ⟨fun u => ⟨rfl, rfl, ?_, ?_, fun w steps => ?_, rfl, rfl, fun now => ⟨fun stopped => ?_, fun start runs => ?_⟩⟩, judgeWindow_iff⟩
  · rw [stepBad_eq_judge]
    rfl
  · rw [stepBad_eq_judge]
  · obtain rfl | rfl | rfl := steps
    · obtain ⟨sets, clears⟩ := judge_eligible { u with standing := min 15 (u.standing + u.settings.goodStep) }
      exact ⟨sets, clears, rfl⟩
    · obtain ⟨sets, clears⟩ := judge_eligible { u with standing := u.standing - u.settings.badStep }
      rw [stepBad_eq_judge]
      exact ⟨sets, clears, rfl⟩
    · obtain ⟨sets, clears⟩ := judge_eligible u
      exact ⟨sets, clears, rfl⟩
  · rw [SupUnit.windowElapsed, stopped]
  · rw [SupUnit.windowElapsed, runs]
    rfl

/-! ### An event of a unit (R163, R164, R167) -/

/-- Settles O17: an event is stored, posted where a flag or eligibility calls for it, costs the holder its authority with its eligibility, and
reaches the port. -/
theorem supervisionEventTakesEffect : Obligations.SupervisionEventTakesEffect := by
  intro s p u flagged reset old new value stored posted heir passed
  have final : SupEffect.final ⟨u, flagged, reset⟩ s.localTime = new := rfl
  have post : (if flagged || old.eligible != new.eligible then stored.postTo p (.port p) .supervision new.postValue else stored) = posted := by
    simp only [posted, Bool.or_eq_true, bne_iff_ne]
    rfl
  have other : ∀ q : Port, q ≠ p → posted.supUnit q = s.supUnit q := by
    intro q ne
    have store := State.supUnit_setSup_ne s new ne
    simp only [posted]
    split <;> exact store
  have holder : posted.holder = s.holder := by
    simp only [posted]
    split <;> rfl
  unfold State.supEvent
  dsimp only
  rw [final]
  change (if reset = true then State.controllerResetAtPort (if _ then State.passAuthority (if _ then _ else _) p else if _ then _ else _) p
    else if _ then State.passAuthority (if _ then _ else _) p else if _ then _ else _) = _
  rw [post]
  have passedEq : (if (old.eligible && !new.eligible && decide (s.holder = some p)) = true then posted.passAuthority p else posted) = passed := by
    simp only [passed, Bool.and_eq_true, Bool.not_eq_true', decide_eq_true_eq, and_assoc]
    split
    · next lost =>
      obtain ⟨-, -, held⟩ := lost
      unfold State.passAuthority
      rw [other _ p.other_ne, holder, held]
    · rfl
  rw [passedEq]

/-- An event without effect on its unit changes nothing. -/
theorem supEvent_quiet (s : State) (p : Port) : s.supEvent p (s.supUnit p).quiet = s := by
  have stored : s.setSup p (s.supUnit p) = s := by simp [State.setSup, State.supUnit]
  have event := supervisionEventTakesEffect s p (s.supUnit p) false false
  simp only [Bool.false_eq_true, if_false, ne_eq, not_true_eq_false, or_self, stored] at event
  refine event.trans (if_neg ?_)
  rintro ⟨eligible, lost, -⟩
  exact absurd (eligible.symm.trans lost) (by decide)

/-! ### Fetch Challenge and Submit Answer (R159, R160) -/

/-- A bad step that a flag records, with the controller reset event it may bring. -/
theorem penalty_eq_bad (u : SupUnit) (f : SupFlag) :
    u.penalty f = ⟨({ u with flags := u.flags ||| supFlagBit f } : SupUnit).stepBad, true,
      decide (({ u with flags := u.flags ||| supFlagBit f } : SupUnit).stepBad.standing = 0)
        && ({ u with flags := u.flags ||| supFlagBit f } : SupUnit).stepBad.settings.resetOnZero⟩ := rfl

/-- A fetch that starts or goes on with supervision renews the challenge where the mark is set, and waits for the answer. -/
theorem refresh_await (w : SupUnit) (now : Time) :
    w.refresh.await .awaitAnswer now =
      { w with
        challenge := if w.answerCorrect then challengeAdvance w.challenge else w.challenge,
        answerCorrect := false, state := .awaitAnswer, windowTimer := some now } := by
  unfold SupUnit.refresh
  cases mark : w.answerCorrect with
  | true => rfl
  | false =>
    cases w
    cases mark
    rfl

theorem fetch_served (frame : s.frameAtOwner p 0x01 []) {e : SupEffect} (event : (s.supUnit p).fetch s.localTime = e) :
    exec (.fetchChallenge p) s = .next ((s.supEvent p e).answers p
      [0x00, 0x02, octet (e.unit.challenge.toNat / 256), octet (e.unit.challenge.toNat % 256)]) := by
  refine exec_of_rule (rule := ruleFetchChallenge) (fun _ _ => rfl) frame ?_
  simp only [ruleFetchChallenge, parseNone, event, be_two]
  rfl

/-- Settles O18: by the state of the unit, and in AWAIT_FETCH by the judgement of the fetch. -/
theorem fetchChallengeServed : Obligations.FetchChallengeServed := by
  intro p params s frame u t serve renewed bad zero
  refine ⟨fun extra => ?_, ?_, ?_, ?_, ?_, ?_⟩
  · exact exec_of_rule (rule := ruleFetchChallenge) (fun _ _ => rfl) frame (by rw [ruleFetchChallenge, parseNone_of_ne_nil extra]; rfl)
  · rintro rfl idle
    refine fetch_served frame ?_
    rw [SupUnit.fetch, show (s.supUnit p).state = .idle from idle]
    exact congrArg SupUnit.quiet (refresh_await _ _)
  · rintro rfl awaiting good
    refine fetch_served frame ?_
    have judged : (s.supUnit p).fetchJudgement s.localTime = .inside := by
      unfold SupUnit.fetchJudgement
      obtain lax | inside := good
      · rw [show (s.supUnit p).settings.strict = false from lax]
        rfl
      · split
        · exact inside
        · rfl
    rw [SupUnit.fetch, show (s.supUnit p).state = .awaitFetch from awaiting]
    dsimp only
    rw [judged]
    exact congrArg SupUnit.quiet (refresh_await _ _)
  · rintro rfl awaiting strict early
    refine fetch_served frame ?_
    have judged : (s.supUnit p).fetchJudgement s.localTime = .early := (if_pos strict).trans early
    rw [SupUnit.fetch, show (s.supUnit p).state = .awaitFetch from awaiting]
    dsimp only
    rw [judged]
    exact congrArg (SupEffect.mk · true _) (refresh_await _ _)
  · rintro rfl awaiting strict late
    refine fetch_served frame ?_
    have judged : (s.supUnit p).fetchJudgement s.localTime = .late := (if_pos strict).trans late
    rw [SupUnit.fetch, show (s.supUnit p).state = .awaitFetch from awaiting]
    dsimp only
    rw [judged]
    exact congrArg (SupEffect.mk · true _) (refresh_await _ _)
  · rintro rfl awaiting
    refine fetch_served frame ?_
    rw [SupUnit.fetch, show (s.supUnit p).state = .awaitAnswer from awaiting]
    rfl

theorem answer_served {answer : BitVec 32} (frame : s.frameAtOwner p 0x02 (answerParams answer)) (started : (s.supUnit p).state ≠ .idle)
    {e : SupEffect} (event : (s.supUnit p).answer answer s.localTime = e) :
    exec (.submitAnswer p) s = .next ((s.supEvent p e).answers p [0x00, 0x00]) := by
  refine exec_of_rule (rule := ruleSubmitAnswer) (fun _ _ => rfl) frame ?_
  simp only [ruleSubmitAnswer, parseAnswer_answerParams, if_neg started, event]
  rfl

theorem parseAnswer_of_length {ps : List Octet} (length : ps.length = 4) : ∃ answer : BitVec 32, parseAnswer ps = .ok answer := by
  match ps, length with
  | [a3, a2, a1, a0], _ => exact ⟨_, rfl⟩

/-- Settles O19: by the length, the state of the unit, and in AWAIT_ANSWER by the window and the expected answer. -/
theorem submitAnswerServed : Obligations.SubmitAnswerServed := by
  intro p params s frame u judged serve awaiting bad zero
  refine ⟨fun wrong => ?_, fun right idle => ?_, ?_⟩
  · exact exec_of_rule (rule := ruleSubmitAnswer) (fun _ _ => rfl) frame
      (by rw [ruleSubmitAnswer, (parseAnswer_reads.2.1 params).mpr wrong]; rfl)
  · obtain ⟨answer, parsed⟩ := parseAnswer_of_length right
    exact exec_of_rule (rule := ruleSubmitAnswer) (fun _ _ => rfl) frame (by rw [ruleSubmitAnswer, parsed]; exact if_pos idle)
  · rintro answer rfl
    have stepped : ∀ {e : SupEffect}, u.state = .awaitAnswer → u.answerStep answer s.localTime = e →
        exec (.submitAnswer p) s = .next ((s.supEvent p ⟨awaiting e.unit, e.flagged, e.reset⟩).answers p [0x00, 0x00]) := by
      rintro _ state rfl
      refine answer_served frame (fun idle => nomatch state.symm.trans idle) ?_
      rw [SupUnit.answer, show (s.supUnit p).state = .awaitAnswer from state]
      rfl
    refine ⟨fun outOfTurn => ?_, fun state early => ?_, fun state late => ?_, fun state inside wrong => ?_, fun state inside right => ?_⟩
    · refine answer_served frame (fun idle => nomatch outOfTurn.symm.trans idle) ?_
      rw [SupUnit.answer, show (s.supUnit p).state = .awaitFetch from outOfTurn]
      rfl
    · exact stepped (e := u.penalty .earlyAnswer) state (by rw [SupUnit.answerStep, show judgeWindow _ _ _ = _ from early])
    · exact stepped (e := u.penalty .lateAnswer) state (by rw [SupUnit.answerStep, show judgeWindow _ _ _ = _ from late])
    · refine stepped (e := u.penalty .wrongAnswer) state ?_
      rw [SupUnit.answerStep, show judgeWindow _ _ _ = _ from inside]
      exact if_neg wrong
    · refine stepped (e := ({ u.stepGood with answerCorrect := true } : SupUnit).quiet) state ?_
      rw [SupUnit.answerStep, show judgeWindow _ _ _ = _ from inside]
      exact if_pos right

/-! ### Configure Supervision (R156) -/

theorem parseSupervision_params {t : SupSettings} (range : t.inRange = true) : parseSupervision (supervisionParams t) = .ok t :=
  (parseSupervision_reads.1 _ _).mpr ⟨range, rfl⟩

theorem configure_served {t : SupSettings} (range : t.inRange = true) (frame : s.frameAtOwner p 0x04 (supervisionParams t))
    {e : SupEffect} (configured : (s.supUnit p).configure t s.localTime = .ok e) :
    exec (.configureSupervision p) s = .next ((s.supEvent p e).answers p [0x00, 0x00]) := by
  refine exec_of_rule (rule := ruleConfigureSupervision) (fun _ _ => rfl) frame ?_
  simp only [ruleConfigureSupervision, parseSupervision_params range, configured]
  rfl

theorem changesLocked_iff (old new : SupSettings) :
    old.changesLocked new = true ↔ { new with answerOpen := old.answerOpen, fetchOpen := old.fetchOpen } ≠ old := by
  rw [SupSettings.changesLocked, decide_eq_true_eq]

/-- Settles O21: by the state of the unit, and once supervision has started by what the new settings change. -/
theorem configureSupervisionServed : Obligations.ConfigureSupervisionServed := by
  intro p params s frame u
  refine ⟨fun wrong => ?_, ?_⟩
  · exact exec_of_rule (rule := ruleConfigureSupervision) (fun _ _ => rfl) frame
      (by rw [ruleConfigureSupervision, (parseSupervision_reads.2.1 params).mpr wrong]; rfl)
  · rintro t range rfl
    refine ⟨fun idle => ?_, fun started locked => ?_, fun started same => ?_, fun started differs open_ => ?_⟩
    · exact configure_served range frame (if_pos idle)
    · refine exec_of_rule (rule := ruleConfigureSupervision) (fun _ _ => rfl) frame ?_
      have refused : (s.supUnit p).configure t s.localTime = .error .locked :=
        (if_neg started).trans (if_pos ((changesLocked_iff _ _).mpr locked))
      simp only [ruleConfigureSupervision, parseSupervision_params range, refused]
      rfl
    · refine ⟨s.answers p [0x00, 0x00], ?_, rfl, rfl⟩
      have unlocked : ¬(s.supUnit p).settings.changesLocked t = true := by
        rw [changesLocked_iff, same]
        exact not_not.mpr rfl
      rw [configure_served range frame ((if_neg started).trans ((if_neg unlocked).trans (if_pos same))), supEvent_quiet]
    · have unlocked : ¬(s.supUnit p).settings.changesLocked t = true := by
        rw [changesLocked_iff]
        exact not_not.mpr open_
      refine (configure_served range frame ((if_neg started).trans ((if_neg unlocked).trans (if_neg differs)))).trans ?_
      rw [penalty_eq_bad, stepBad_settings]
      rfl

/-! ### The timers of a unit (R161, R164) -/

theorem timeout_eq (u : SupUnit) (now : Time) :
    u.timeout now =
      let bad := ({ u with flags := u.flags ||| supFlagBit u.timeoutFlag } : SupUnit).stepBad
      if u.settings.resetOnTimeout = true then ⟨bad, true, true⟩
      else ⟨{ bad with windowTimer := some now }, true, decide (bad.standing = 0) && u.settings.resetOnZero⟩ := by
  unfold SupUnit.timeout
  dsimp only
  split
  · rfl
  · simp only [penalty_eq_bad, SupEffect.andThen, stepBad_settings]

theorem windowTimerExpiry_served {start : Time} (runs : (s.supUnit p).windowTimer = some start)
    (due : (s.supUnit p).state = .awaitAnswer
        ∧ ((s.supUnit p).settings.answerClose + (s.supUnit p).settings.answerGrace) * 10000 ≤ (s.localTime - start).toNat
      ∨ (s.supUnit p).state = .awaitFetch
        ∧ ((s.supUnit p).settings.fetchClose + (s.supUnit p).settings.fetchGrace) * 10000 ≤ (s.localTime - start).toNat) :
    exec (.windowTimerExpiry p) s = .next (s.supEvent p ((s.supUnit p).timeout s.localTime)) := by
  refine congrArg Host.Outcome.next (if_pos ((windowExpired_iff s p).mpr ?_))
  exact due.imp (fun ⟨state, passed⟩ => ⟨state, start, runs, passed⟩) fun ⟨state, passed⟩ => ⟨state, start, runs, passed⟩

/-- Settles O22: each expiry where its timer has run its length; CRST by its timer. -/
theorem supervisionTimersExpire : Obligations.SupervisionTimersExpire := by
  intro p start s u t bad after
  refine ⟨fun runs state passed => ?_, fun runs state passed => ?_, fun runs passed => ?_, ?_⟩
  · have flag : (s.supUnit p).timeoutFlag = .answerTimeout := by rw [SupUnit.timeoutFlag, show (s.supUnit p).state = .awaitAnswer from state]
    rw [windowTimerExpiry_served runs (.inl ⟨state, passed⟩), timeout_eq, flag]
    rfl
  · have flag : (s.supUnit p).timeoutFlag = .fetchTimeout := by rw [SupUnit.timeoutFlag, show (s.supUnit p).state = .awaitFetch from state]
    rw [windowTimerExpiry_served runs (.inr ⟨state, passed⟩), timeout_eq, flag]
    rfl
  · refine ⟨_, congrArg Host.Outcome.next (if_pos ((crstExpired_iff s p).mpr ⟨start, runs, passed⟩)), ?_, rfl⟩
    rw [State.crstLow, State.supUnit_setSup_self]
    rfl
  · exact Option.isSome_iff_exists

/-! ### Authority (R166, R167) -/

theorem hiLo_toNat {high low : Nat} (h : high < 256) (l : low < 256) : (hiLo high low).toNat = high * 256 + low := by
  rw [hiLo, BitVec.toNat_ofNat]
  omega

/-- Settles O23: the checks of each command in their order. -/
theorem authorityTakenAndYielded : Obligations.AuthorityTakenAndYielded := by
  refine ⟨rfl, fun high low h l => ?_, fun p s => ⟨fun params frame => ?_, fun params frame => ?_⟩⟩
  · rw [hiLo_toNat h l]
    omega
  · have take : ∀ {t : State} {result : List Octet}, ruleTakeAuthority p params s = (t, result) →
        exec (.takeAuthority p) s = .next (t.answers p result) :=
      exec_of_rule (rule := ruleTakeAuthority) (fun _ _ => rfl) frame
    refine ⟨fun extra => take (by rw [ruleTakeAuthority, parseNone_of_ne_nil extra]; rfl), ?_, ?_, ?_, ?_⟩
    · rintro rfl held
      exact take (if_pos held)
    · rintro rfl free ineligible
      exact take ((if_neg free).trans (if_pos (by rw [ineligible]; rfl)))
    · rintro rfl other eligible
      have free : s.holder ≠ some p := fun held => p.other_ne (Option.some.inj (other.symm.trans held))
      exact take ((if_neg free).trans ((if_neg (by rw [eligible]; decide)).trans (if_pos other)))
    · rintro rfl none_ eligible
      have free : ∀ q : Port, s.holder ≠ some q := fun q held => nomatch none_.symm.trans held
      refine take ((if_neg (free p)).trans ((if_neg (by rw [eligible]; decide)).trans ((if_neg (free p.other)).trans ?_)))
      rw [State.grantAuthority, none_]
      rfl
  · have yield_ : ∀ {t : State} {result : List Octet}, ruleYieldAuthority p params s = (t, result) →
        exec (.yieldAuthority p) s = .next (t.answers p result) :=
      exec_of_rule (rule := ruleYieldAuthority) (fun _ _ => rfl) frame
    refine ⟨fun extra => yield_ (by rw [ruleYieldAuthority, parseNone_of_ne_nil extra]; rfl), ?_, ?_⟩
    · rintro rfl free
      exact yield_ (if_neg free)
    · rintro rfl held
      refine yield_ ((if_pos held).trans ?_)
      rw [State.passAuthority_eq, held]
      rfl

/-! ### Read Supervision (R165) -/

/-- Settles O24: the data octets one by one. -/
theorem readSupervisionReports : Obligations.ReadSupervisionReports := by
  intro p params s frame u ms
  refine ⟨fun extra => ?_, ?_, rfl, rfl⟩
  · exact exec_of_rule (rule := ruleReadSupervision) (fun _ _ => rfl) frame
      (by rw [ruleReadSupervision, parseNone_of_ne_nil extra]; rfl)
  · rintro rfl
    refine exec_of_rule (rule := ruleReadSupervision) (fun _ _ => rfl) frame ?_
    simp only [ruleReadSupervision, parseNone, supervisionData, be_two]
    rfl

end Sys2Proof.Machine
end

section
/-! Who changes what (R2, R24, R57, R154, R156, R166, R167): each value with an owner is changed by the moves of its owner's commands alone. -/

namespace Sys2Proof.Machine

variable {i : Instr} {s t : State}

/-- A relation of two states that every move brings about, a chain of moves does. -/
theorem Moves.relates {R : State → State → Prop} (refl : ∀ s, R s s) (trans : ∀ s t u, R s t → R t u → R s u)
    (move : ∀ s t, Move i s t → R s t) (h : Moves i s t) : R s t := by
  induction h with
  | refl => exact refl s
  | tail _ last ih => exact trans _ _ _ ih (move _ _ last)

/-! ### Settings and layout (R2, R9) -/

/-- The settings groups and the layout of a circuit are as they were but for those that the command owns. -/
def SettingsKept (i : Instr) (v w : Circuit) : Prop :=
  ((∀ p : Port, i ≠ .setPlayout p) → w.playoutSet = v.playoutSet)
    ∧ ((∀ p : Port, i ≠ .setTiming p) → w.timingSet = v.timingSet)
    ∧ ((∀ p : Port, i ≠ .setPaths p) → w.pathSet = v.pathSet)
    ∧ ((∀ p : Port, i ≠ .setProbing p) → w.probeSet = v.probeSet)
    ∧ ((∀ p : Port, i ≠ .openCircuit p) → w.layout = v.layout)

theorem settingsKept_refl (v : Circuit) : SettingsKept i v v := ⟨fun _ => rfl, fun _ => rfl, fun _ => rfl, fun _ => rfl, fun _ => rfl⟩

theorem SettingsKept.trans {u v w : Circuit} (first : SettingsKept i u v) (next : SettingsKept i v w) : SettingsKept i u w := by
  obtain ⟨playout, timing, paths, probing, layout⟩ := first
  obtain ⟨playout', timing', paths', probing', layout'⟩ := next
  exact ⟨fun other => (playout' other).trans (playout other), fun other => (timing' other).trans (timing other),
    fun other => (paths' other).trans (paths other), fun other => (probing' other).trans (probing other),
    fun other => (layout' other).trans (layout other)⟩

theorem CircuitMove.settingsKept {v w : Circuit} (h : CircuitMove i v w) : SettingsKept i v w := by
  cases h with
  | setPlayout own => exact ⟨fun other => absurd own (other _), fun _ => rfl, fun _ => rfl, fun _ => rfl, fun _ => rfl⟩
  | setTiming own => exact ⟨fun _ => rfl, fun other => absurd own (other _), fun _ => rfl, fun _ => rfl, fun _ => rfl⟩
  | setPaths own => exact ⟨fun _ => rfl, fun _ => rfl, fun other => absurd own (other _), fun _ => rfl, fun _ => rfl⟩
  | setProbing own => exact ⟨fun _ => rfl, fun _ => rfl, fun _ => rfl, fun other => absurd own (other _), fun _ => rfl⟩
  | playout move =>
    obtain ⟨_, _, _, _, _, rfl⟩ := move.eq
    exact settingsKept_refl v
  | _ => exact settingsKept_refl v

theorem CircuitChange.settingsKept {v w : Circuit} (h : CircuitChange i v w) : SettingsKept i v w := by
  cases h with
  | same => exact settingsKept_refl v
  | move move => exact move.settingsKept
  | closed => exact settingsKept_refl v
  | opened own => exact ⟨fun _ => rfl, fun _ => rfl, fun _ => rfl, fun _ => rfl, fun other => absurd own (other _)⟩

theorem Moves.settingsKept (h : Moves i s t) (c : CircuitId) : SettingsKept i (s.circuit c) (t.circuit c) :=
  h.relates (R := fun s t => SettingsKept i (s.circuit c) (t.circuit c)) (fun _ => settingsKept_refl _)
    (fun _ _ _ first next => first.trans next) fun _ _ move => (move.circuitChange c).settingsKept

/-! ### The reference settings and the addresses of the paths (R57, R127) -/

theorem Moves.refStored (other : ∀ p : Port, i ≠ .configureReference p) (h : Moves i s t) : s.ref.SameStored t.ref := by
  refine h.relates (R := fun s t => s.ref.SameStored t.ref) (fun _ => ⟨rfl, rfl, rfl⟩) (fun s t u first next => ?_) fun s t move => ?_
  · obtain ⟨word, tolerance, q⟩ := first
    obtain ⟨word', tolerance', q'⟩ := next
    exact ⟨word'.trans word, tolerance'.trans tolerance, q'.trans q⟩
  · cases move with
    | ref kept => exact kept.resolve_left fun ⟨p, own⟩ => other p own
    | _ => exact ⟨rfl, rfl, rfl⟩

theorem PathMove.addresses {u w : PathUnit} (other : ∀ p : Port, i ≠ .configurePath p) (h : PathMove i u w) :
    w.source = u.source ∧ w.typeCode = u.typeCode := by
  cases h with
  | link up => cases up <;> exact ⟨rfl, rfl⟩
  | configure own => exact absurd own (other _)
  | _ => exact ⟨rfl, rfl⟩

theorem Moves.addresses (other : ∀ p : Port, i ≠ .configurePath p) (h : Moves i s t) (π : Path) :
    (t.pathUnit π).source = (s.pathUnit π).source ∧ (t.pathUnit π).typeCode = (s.pathUnit π).typeCode := by
  refine h.relates (R := fun s t => (t.pathUnit π).source = (s.pathUnit π).source ∧ (t.pathUnit π).typeCode = (s.pathUnit π).typeCode)
    (fun _ => ⟨rfl, rfl⟩) (fun s t u first next => ⟨next.1.trans first.1, next.2.trans first.2⟩) fun s t move => ?_
  cases move with
  | path ρ move =>
    by_cases same : π = ρ
    · subst same
      rw [State.pathUnit_setPath_self]
      exact move.addresses other
    · rw [State.pathUnit_setPath_ne _ _ same]
      exact ⟨rfl, rfl⟩
  | _ => exact ⟨rfl, rfl⟩

/-! ### Local time and the queue of commands (assumption 1) -/

theorem Moves.timeAndQueue (h : Moves i s t) : t.localTime = s.localTime ∧ t.pending = s.pending := by
  refine h.relates (R := fun s t => t.localTime = s.localTime ∧ t.pending = s.pending)
    (fun _ => ⟨rfl, rfl⟩) (fun s t u first next => ⟨next.1.trans first.1, next.2.trans first.2⟩) fun s t move => ?_
  cases move <;> exact ⟨rfl, rfl⟩

/-! ### The holder (R166, R167) -/

theorem Moves.holder (unit : ∀ p : Port, i ∉ supervisionOf p) (take : ∀ p : Port, i ≠ .takeAuthority p)
    (yield_ : ∀ p : Port, i ≠ .yieldAuthority p) (h : Moves i s t) : t.holder = s.holder := by
  refine h.relates (R := fun s t => t.holder = s.holder) (fun _ => rfl) (fun s t u first next => next.trans first) fun s t move => ?_
  cases move with
  | supervision p own => exact absurd own (unit p)
  | authority own =>
    obtain ⟨p, is | is⟩ := own
    · exact absurd is (take p)
    · exact absurd is (yield_ p)
  | _ => rfl

/-- Where the holder changes, it was port `p`, which lost its eligibility. -/
def HolderLost (p : Port) (s t : State) : Prop :=
  t.holder ≠ s.holder → s.holder = some p ∧ (s.supUnit p).eligible = true ∧ (t.supUnit p).eligible = false

theorem holderLost_of_eq {p : Port} (same : t.holder = s.holder) : HolderLost p s t := fun differs => absurd same differs

theorem supEvent_holder (s : State) (p : Port) (e : SupEffect) :
    (s.supEvent p e).holder = s.holderAfter p (e.final s.localTime) := by
  have reset : ∀ t : State, (if e.reset then t.controllerResetAtPort p else t).holder = t.holder := by
    intro t
    split
    · obtain ⟨u, x, h⟩ := t.controllerResetAtPort_eq p
      rw [h]
      rfl
    · rfl
  unfold State.supEvent
  simp only [reset]
  rw [State.holderAfter]
  simp only [Bool.and_eq_true, Bool.not_eq_true', decide_eq_true_eq, and_assoc]
  split
  · rw [State.passAuthority_eq]
    have other : ∀ b : Prop, [Decidable b] → (if b then (s.setSup p (e.final s.localTime)).postTo p (.port p) .supervision
        (e.final s.localTime).postValue else s.setSup p (e.final s.localTime)).supUnit p.other = s.supUnit p.other := by
      intro b _
      have stored := State.supUnit_setSup_ne s (e.final s.localTime) p.other_ne
      split <;> exact stored
    rw [other]
  · split <;> rfl

theorem supEvent_holderLost (s : State) (p : Port) (e : SupEffect) : HolderLost p s (s.supEvent p e) := by
  intro differs
  rw [supEvent_holder, State.holderAfter] at differs
  split at differs
  · next lost =>
    obtain ⟨eligible, after, held⟩ := lost
    rw [State.supEvent_supUnit_self]
    exact ⟨held, eligible, after⟩
  · exact absurd rfl differs

theorem serve_holderLost {p : Port} {code : Octet} {rule : List Octet → State → State × List Octet}
    (rules : ∀ ps, HolderLost p s (rule ps s).1) : HolderLost p s (serve p code rule s) := by
  obtain same | ⟨ps, -, done⟩ := serve_cases p code rule s
  · rw [same]
    exact holderLost_of_eq rfl
  · rw [done]
    exact rules ps

theorem ruleFetchChallenge_holderLost (p : Port) (ps : List Octet) (s : State) : HolderLost p s (ruleFetchChallenge p ps s).1 := by
  unfold ruleFetchChallenge
  split
  · exact holderLost_of_eq rfl
  · exact supEvent_holderLost _ _ _

theorem ruleSubmitAnswer_holderLost (p : Port) (ps : List Octet) (s : State) : HolderLost p s (ruleSubmitAnswer p ps s).1 := by
  unfold ruleSubmitAnswer
  split
  · exact holderLost_of_eq rfl
  · split_ifs
    · exact holderLost_of_eq rfl
    · exact supEvent_holderLost _ _ _

theorem ruleConfigureSupervision_holderLost (p : Port) (ps : List Octet) (s : State) :
    HolderLost p s (ruleConfigureSupervision p ps s).1 := by
  unfold ruleConfigureSupervision
  split
  · exact holderLost_of_eq rfl
  · split
    · exact holderLost_of_eq rfl
    · exact supEvent_holderLost _ _ _

theorem ruleReadSupervision_holder (p : Port) (ps : List Octet) (s : State) : (ruleReadSupervision p ps s).1.holder = s.holder := by
  unfold ruleReadSupervision
  split <;> rfl

theorem serve_holder {p : Port} {code : Octet} {rule : List Octet → State → State × List Octet}
    (rules : ∀ ps, (rule ps s).1.holder = s.holder) : (serve p code rule s).holder = s.holder := by
  obtain same | ⟨ps, -, done⟩ := serve_cases p code rule s
  · rw [same]
  · rw [done]
    exact rules ps

theorem ruleTakeAuthority_holder (p : Port) (ps : List Octet) (s : State) :
    (ruleTakeAuthority p ps s).1.holder ≠ s.holder → s.holder = none ∧ (ruleTakeAuthority p ps s).1.holder = some p := by
  unfold ruleTakeAuthority
  split
  · exact fun differs => absurd rfl differs
  · split_ifs with held ineligible other
    · exact fun differs => absurd rfl differs
    · exact fun differs => absurd rfl differs
    · exact fun differs => absurd rfl differs
    · refine fun _ => ⟨?_, rfl⟩
      cases holder : s.holder with
      | none => rfl
      | some q =>
        obtain rfl | rfl : q = p ∨ q = p.other := by cases p <;> cases q <;> decide
        · exact absurd holder held
        · exact absurd holder other

/-- A grant goes to a port that asks while there is no holder (R166). -/
theorem exec_takeAuthority_holder {p : Port} (done : exec (.takeAuthority p) s = .next t) (differs : t.holder ≠ s.holder) :
    s.holder = none ∧ t.holder = some p := by
  cases done
  obtain same | ⟨ps, -, served⟩ := serve_cases p 0x05 (ruleTakeAuthority p) s
  · rw [same] at differs
    exact absurd rfl differs
  · rw [served] at differs ⊢
    exact ruleTakeAuthority_holder p ps s differs

/-- A port yields what it holds (R167). -/
theorem exec_yieldAuthority_holder {p : Port} (done : exec (.yieldAuthority p) s = .next t) (differs : t.holder ≠ s.holder) :
    s.holder = some p := by
  cases done
  by_contra free
  refine differs (serve_holder fun ps => ?_)
  unfold ruleYieldAuthority
  split
  · rfl
  · rw [if_neg free]

/-- Who changes the holder: Take Authority from none, Yield Authority of the holder, or an event that costs the holder its eligibility. -/
theorem exec_holder (done : exec i s = .next t) (reset : i ≠ .deviceReset) (differs : t.holder ≠ s.holder) :
    (∃ p : Port, i = .takeAuthority p ∧ s.holder = none ∧ t.holder = some p)
      ∨ (∃ p : Port, i = .yieldAuthority p ∧ s.holder = some p)
      ∨ (∃ p : Port,
          i ∈ [Instr.fetchChallenge p, .submitAnswer p, .configureSupervision p, .windowTimerExpiry p]
            ∧ s.holder = some p ∧ (s.supUnit p).eligible = true ∧ (t.supUnit p).eligible = false) := by
  have moves := exec_byMoves s reset t done
  cases i with
  | takeAuthority p => exact .inl ⟨p, rfl, exec_takeAuthority_holder done differs⟩
  | yieldAuthority p => exact .inr (.inl ⟨p, rfl, exec_yieldAuthority_holder done differs⟩)
  | fetchChallenge p =>
    cases done
    exact .inr (.inr ⟨p, by simp, serve_holderLost (fun ps => ruleFetchChallenge_holderLost p ps s) differs⟩)
  | submitAnswer p =>
    cases done
    exact .inr (.inr ⟨p, by simp, serve_holderLost (fun ps => ruleSubmitAnswer_holderLost p ps s) differs⟩)
  | configureSupervision p =>
    cases done
    exact .inr (.inr ⟨p, by simp, serve_holderLost (fun ps => ruleConfigureSupervision_holderLost p ps s) differs⟩)
  | windowTimerExpiry p =>
    refine .inr (.inr ⟨p, by simp, ?_⟩)
    have lost : ∀ r : State, (r = s ∨ r = s.supEvent p ((s.supUnit p).timeout s.localTime)) → HolderLost p s r := by
      rintro r (rfl | rfl)
      · exact holderLost_of_eq rfl
      · exact supEvent_holderLost _ _ _
    cases done
    exact lost _ (ite_eq_or_eq .. |>.symm) differs
  | readSupervision p =>
    cases done
    exact absurd (serve_holder fun ps => ruleReadSupervision_holder p ps s) differs
  | crstTimerExpiry p =>
    cases done
    refine absurd ?_ differs
    split <;> rfl
  | deviceReset => exact absurd rfl reset
  | _ => exact absurd (Moves.holder (by simp [supervisionOf]) (by simp) (by simp) moves) differs

/-- Settles O60: a supervision unit by its own commands, every other value by the moves of its owner. -/
theorem ownersAloneChangeTheirState : Obligations.OwnersAloneChangeTheirState := by
  intro i s t done reset
  have moves := exec_byMoves s reset t done
  exact ⟨fun p other => exec_keepsSupUnit s reset other t done, moves.settingsKept, moves.refStored, moves.addresses,
    exec_holder done reset, moves.timeAndQueue⟩

end Sys2Proof.Machine
end

section
/-! The circuit table (chapter 1): the requests of the playout unit, Close, Hold and Resume Circuit, and Open Circuit. -/

namespace Sys2Proof.Machine

variable {p : Port} {c : CircuitId} {s : State}

/-! ### Posts as a list of events -/

/-- The state after events posted to both queues in turn (R170). -/
def State.posted (s : State) (events : List Event) : State := { s with attn := s.attnAfter events }

theorem post_eq_posted (s : State) (src : Source) (kind : AttnKind) (value : BitVec 16) :
    s.post src kind value = s.posted [⟨src, kind, value⟩] := rfl

@[simp] theorem posted_nil (s : State) : s.posted [] = s := rfl

@[simp] theorem posted_posted (s : State) (xs ys : List Event) : (s.posted xs).posted ys = s.posted (xs ++ ys) :=
  congrArg (fun attn => ({ s with attn := attn } : State)) (s.attnAfter_append xs ys)

@[simp] theorem posted_circuit (s : State) (events : List Event) (d : CircuitId) : (s.posted events).circuit d = s.circuit d := rfl

@[simp] theorem posted_pathUnit (s : State) (events : List Event) (π : Path) : (s.posted events).pathUnit π = s.pathUnit π := rfl

@[simp] theorem posted_localTime (s : State) (events : List Event) : (s.posted events).localTime = s.localTime := rfl

@[simp] theorem posted_freeBlocks (s : State) (events : List Event) : (s.posted events).freeBlocks = s.freeBlocks := rfl

@[simp] theorem setCircuit_posted (s : State) (events : List Event) (c : CircuitId) (v : Circuit) :
    (s.posted events).setCircuit c v = (s.setCircuit c v).posted events := rfl

@[simp] theorem setFreeBlocks_posted (s : State) (events : List Event) (n : Nat) :
    (s.posted events).setFreeBlocks n = (s.setFreeBlocks n).posted events := rfl

@[simp] theorem setFreeBlocks_circuit (s : State) (n : Nat) (d : CircuitId) : (s.setFreeBlocks n).circuit d = s.circuit d := rfl

@[simp] theorem setCircuit_setFreeBlocks (s : State) (n : Nat) (c : CircuitId) (v : Circuit) :
    (s.setFreeBlocks n).setCircuit c v = (s.setCircuit c v).setFreeBlocks n := rfl

theorem changeTo_eq (s : State) (c : CircuitId) (w : Circuit) :
    s.changeTo c w =
      (s.setCircuit c w).posted [⟨.circuit c, .circuitState, hiLo (stateCode (s.circuit c).state) (stateCode w.state)⟩] := rfl

/-! ### Requests that wait (R4, R20) -/

/-- An underrun request taken in RUNNING: the circuit enters ACQUIRING, and both events are posted. -/
theorem takeUnderrun_running (run : (s.circuit c).state = .running) (head : Seq) :
    s.takeUnderrun c head =
      (s.setCircuit c ((s.circuit c).intoAcquiring s.localTime)).posted
        [⟨.circuit c, .circuitState, 0x0201⟩, ⟨.circuit c, .underrun, head⟩] := by
  unfold State.takeUnderrun
  rw [if_pos run]
  rw [changeTo_eq, run, post_eq_posted, posted_posted]
  rfl

theorem takeOverrun_running (run : (s.circuit c).state = .running) (n : Seq) :
    s.takeOverrun c n =
      (s.setCircuit c ((s.circuit c).intoAcquiring s.localTime)).posted
        [⟨.circuit c, .circuitState, 0x0201⟩, ⟨.circuit c, .overrun, n⟩] := by
  unfold State.takeOverrun
  rw [if_pos run]
  rw [changeTo_eq, run, post_eq_posted, posted_posted]
  rfl

theorem takeAcquisitionComplete_acquiring (state : (s.circuit c).state = .acquiring) :
    s.takeAcquisitionComplete c =
      (s.setCircuit c (s.circuit c).intoRunning).posted [⟨.circuit c, .circuitState, 0x0102⟩] := by
  unfold State.takeAcquisitionComplete
  rw [if_pos state]
  rw [changeTo_eq, state]
  rfl

theorem exec_underrun {r : UnderrunRequest} (waits : (s.circuit c).requests.underrun = some r) :
    exec (.underrun c) s = .next (s.takeUnderrun c r.head) := by
  refine congrArg Host.Outcome.next ?_
  unfold State.settleUnderrun
  rw [waits]

theorem exec_overrun {n : Seq} (waits : (s.circuit c).requests.overrun = some n) :
    exec (.overrun c) s = .next (s.takeOverrun c n) := by
  show execOverrun c s = _
  unfold execOverrun
  rw [waits]

/-- Settles O31: each request by the state that it finds, and the acquisition timer's expiry. -/
theorem playoutRequestsTaken : Obligations.PlayoutRequestsTaken := by
  refine ⟨⟨rfl, rfl, rfl⟩, fun c s => ⟨fun waits => ⟨fun state => ?_, fun state => ?_⟩, fun r waits => ⟨fun state => ?_, fun state => ?_⟩,
    fun n waits => ⟨fun state => ?_, fun state => ?_⟩, fun waits state => ?_, fun start runs state free passed => ?_⟩⟩
  · exact congrArg Host.Outcome.next ((if_pos waits).trans (takeAcquisitionComplete_acquiring state))
  · exact congrArg Host.Outcome.next ((if_pos waits).trans (if_neg state))
  · exact (exec_underrun waits).trans (congrArg Host.Outcome.next (takeUnderrun_running state _))
  · exact (exec_underrun waits).trans (congrArg Host.Outcome.next (if_neg state))
  · exact (exec_overrun waits).trans (congrArg Host.Outcome.next (takeOverrun_running state _))
  · exact (exec_overrun waits).trans (congrArg Host.Outcome.next (if_neg state))
  · exact congrArg Host.Outcome.next ((if_pos waits).trans (if_neg state))
  · exact congrArg Host.Outcome.next (if_pos ((acqTimerDue_iff s c).mpr ⟨state, free, start, runs, passed⟩))

/-! ### Close, Hold and Resume Circuit (R15, R17, R18) -/

theorem parseCircuit_circuitParams (c : CircuitId) : parseCircuit (circuitParams c) = .ok c :=
  (parseCircuit_reads.1 _ _).mpr ⟨trivial, rfl⟩

theorem parseClose_closeParams (c : CircuitId) {limit : Nat} (le : limit ≤ 255) : parseClose (closeParams c limit) = .ok (c, limit) :=
  (parseClose_reads.1 _ (c, limit)).mpr ⟨le, rfl⟩

theorem drained_iff (v : Circuit) : v.drained = true ↔ v.cursor.filledCount = 0 ∨ v.cursor.head = none := by
  simp [Circuit.drained]

theorem underrunFirst_eq_false {v : Circuit}
    (later : v.state ≠ .running ∨ ∀ r : UnderrunRequest, v.requests.underrun = some r → r.closesAhead.get p = true) :
    v.underrunFirst p = false := by
  unfold Circuit.underrunFirst
  cases waits : v.requests.underrun with
  | none => rfl
  | some r =>
    obtain other | ahead := later
    · simp [other]
    · simp [ahead r waits]

theorem exec_closeCircuit {limit : Nat} (frame : s.frameAtOwner p 0x11 (closeParams c limit)) (le : limit ≤ 255)
    (open_ : (s.circuit c).state ≠ .closed) {t : State} (closed : s.closeCircuit p c limit = t) :
    exec (.closeCircuit p) s = .next (t.answers p [0x00, 0x00]) := by
  refine exec_of_rule (rule := ruleCloseCircuit) (fun _ _ => rfl) frame ?_
  simp only [ruleCloseCircuit, parseClose_closeParams c le, (isOpen_iff _).mpr open_, if_true, closed]
  rfl

/-- The entry to CLOSED, from the state that an owner's step leaves. -/
theorem enterClosed_eq (s : State) (c : CircuitId) :
    s.enterClosed c =
      ((s.setCircuit c (s.circuit c).intoClosed).setFreeBlocks (s.freeBlocks + (s.circuit c).blocksHeld)).posted
        [⟨.circuit c, .circuitState, hiLo (stateCode (s.circuit c).state) 0⟩] := rfl

/-- Settles O29: Close by what it meets, drain complete, and the drain limit's expiry; each is the one entry to CLOSED. -/
theorem circuitEntersClosed : Obligations.CircuitEntersClosed := by
  intro c s v closed posting after
  refine ⟨fun p limit frame le open_ => ⟨fun drained later => ?_, fun r run waits first => ?_⟩, fun waits closing => ?_, fun closing expired => ?_⟩
  · refine exec_closeCircuit frame le open_ ?_
    rw [State.closeCircuit_first limit (underrunFirst_eq_false later)]
    exact if_pos (by rwa [drained_iff])
  · refine exec_closeCircuit frame le open_ ?_
    rw [State.closeCircuit_second limit run waits first, takeUnderrun_running run]
    have code : hiLo (stateCode .acquiring) 0 = 0x0100 := by decide
    have left : (v.intoAcquiring s.localTime).state = .acquiring := rfl
    unfold State.closeSettled
    rw [posted_circuit, State.circuit_setCircuit_self, if_pos (.inr rfl), enterClosed_eq, posted_circuit, State.circuit_setCircuit_self,
      left, code, setCircuit_posted, setFreeBlocks_posted, posted_posted, State.setCircuit_setCircuit]
    rfl
  · exact congrArg Host.Outcome.next ((if_pos waits).trans (if_pos closing))
  · exact congrArg Host.Outcome.next (if_pos ((drainExpired_iff _).mpr ⟨closing, expired⟩))

theorem holdAllowed_iff (v : Circuit) : v.holdAllowed = true ↔ v.state = .running ∨ (v.state = .acquiring ∧ v.holdBarrier = false) := by
  simp [Circuit.holdAllowed]

theorem closeSettled_of_draining {limit : Nat} (on : limit ≠ 0) (filled : (s.circuit c).cursor.filledCount ≠ 0)
    (set : (s.circuit c).cursor.head ≠ none) :
    s.closeSettled c limit =
      if (s.circuit c).state = .closing then s.setCircuit c { s.circuit c with drainRemaining := limit, drainFrames := 0 }
      else s.changeTo c ((s.circuit c).intoClosing limit) := by
  refine if_neg ?_
  rw [drained_iff]
  tauto

/-- Settles O30: each command by the state of its circuit. -/
theorem closeHoldResumeServed : Obligations.CloseHoldResumeServed := by
  intro p c s
  refine ⟨fun limit frame le => ⟨fun closed => ?_, fun open_ entered on filled set later => ?_, fun closing on filled set => ?_⟩,
    fun frame => ⟨fun allowed => ?_, fun refused => ?_⟩, fun frame => ⟨fun held => ?_, fun other => ?_⟩⟩
  · refine exec_of_rule (rule := ruleCloseCircuit) (fun _ _ => rfl) frame ?_
    rw [ruleCloseCircuit, parseClose_closeParams c le]
    exact if_neg (by rw [isOpen_iff]; exact not_not.mpr closed)
  · refine exec_closeCircuit frame le open_ ?_
    rw [State.closeCircuit_first limit (underrunFirst_eq_false later), closeSettled_of_draining on filled set]
    exact if_neg entered
  · have open_ : (s.circuit c).state ≠ .closed := fun closed => nomatch closing.symm.trans closed
    have other : (s.circuit c).state ≠ .running := fun run => nomatch closing.symm.trans run
    refine exec_closeCircuit frame le open_ ?_
    rw [State.closeCircuit_first limit (underrunFirst_eq_false (.inl other)), closeSettled_of_draining on filled set]
    exact if_pos closing
  · refine exec_of_rule (rule := fun _ => ruleHoldCircuit) (fun _ _ => rfl) frame ?_
    rw [ruleHoldCircuit, parseCircuit_circuitParams]
    exact if_pos ((holdAllowed_iff _).mpr allowed)
  · refine exec_of_rule (rule := fun _ => ruleHoldCircuit) (fun _ _ => rfl) frame ?_
    rw [ruleHoldCircuit, parseCircuit_circuitParams]
    exact if_neg (mt (holdAllowed_iff _).mp refused)
  · refine exec_of_rule (rule := fun _ => ruleResumeCircuit) (fun _ _ => rfl) frame ?_
    rw [ruleResumeCircuit, parseCircuit_circuitParams]
    exact if_pos held
  · refine exec_of_rule (rule := fun _ => ruleResumeCircuit) (fun _ _ => rfl) frame ?_
    rw [ruleResumeCircuit, parseCircuit_circuitParams]
    exact if_neg other

/-! ### Open Circuit (R13, R14) -/

theorem judgeTx_moving {v : Circuit} (at_ : s.circuit c = v) (single : v.pathSet.mode = .single) (open_ : v.state ≠ .closed)
    (moves : s.mustMove c = true) :
    s.judgeTx c =
      (s.setCircuit c { v with health := { v.health with active := v.health.active.other } }).posted
        [⟨.circuit c, .txPathChange, BitVec.ofNat 16 (pathCode v.health.active.other)⟩] := by
  subst at_
  unfold State.judgeTx
  rw [if_pos (by simp [single, isOpen_iff, open_, moves])]
  rfl

theorem judgeTx_staying (stays : (s.circuit c).pathSet.mode = .single → (s.circuit c).state ≠ .closed → s.mustMove c = false) :
    s.judgeTx c = s := by
  unfold State.judgeTx
  refine if_neg ?_
  simp only [Bool.and_eq_true, decide_eq_true_eq, isOpen_iff, not_and, Bool.not_eq_true]
  exact fun ⟨single, open_⟩ => stays single open_

theorem ruleOpenCircuit_openParams (c : CircuitId) {l : Layout} (range : l.wellFormed = true) :
    ruleOpenCircuit (openParams c l) s =
      if (s.circuit c).isOpen then (s, refuse .wrongState)
      else if s.tagInUse c l.remoteTag then (s, refuse .duplicateTag)
      else if s.freeBlocks < l.neededBlocks then (s, refuse .noSpace)
      else (s.openCircuit c l, okNone) := by
  rw [ruleOpenCircuit, parseOpen_openParams c range]

/-- The alarm set of a circuit just opened. -/
theorem opened_alarmSet (v : Circuit) (l : Layout) (now : Time) :
    (v.opened l now).alarmSet =
      (if v.line.los then 1 else 0) + (if v.line.ais then 2 else 0) + (if l.mode = .structured then 4 else 0) := by
  have loa : (v.opened l now).loa = decide (l.mode = .structured) := by
    cases mode : l.mode <;>
      simp [Circuit.loa, Circuit.isOpen, Circuit.opened, Circuit.intoAcquiring, Circuit.flush, Circuit.layoutD, Line.opened, mode]
  rw [Circuit.alarmSet, loa]
  simp [Circuit.opened, Circuit.intoAcquiring, Circuit.flush, Line.opened]

/-- The path that Open Circuit makes active before it judges it (R14). -/
def Circuit.openPath (v : Circuit) : Path := if v.pathSet.mode = .single then v.pathSet.preferred else v.health.active

/-- The record of a circuit just opened, whose active path is `active`. -/
theorem opened_eq (v : Circuit) (l : Layout) (now : Time) (active : Path) :
    { v.opened l now with health := { (v.opened l now).health with active := active } } =
      { v with
        layout := some l, state := .acquiring, blocksHeld := l.neededBlocks,
        requests := ⟨false, none, none, false⟩,
        line := { v.line with
          framer := if l.mode = .structured then .search else .notRequired, firstTestPassed := false, erroredRun := 0,
          searchPos := v.line.rxCount, history := [] },
        packetizer := ⟨true, false, 0, []⟩,
        ring := List.replicate (2 ^ l.k) .emptySlot,
        cursor := ⟨none, 0, false, none, 0, 0, 0, none, some now, none, none, 0, none⟩,
        timing := ⟨0, 0, 0, 0, 0, 0, ⟨false, false⟩, ⟨false, false⟩⟩,
        health := ⟨⟨v.pathSet.high, v.pathSet.high⟩, ⟨false, false⟩, active⟩,
        probing := ⟨if v.probeSet.interval = 0 then none else some now, 0, ⟨[], []⟩, ⟨0, 0⟩,
          ⟨⟨0, ⟨none, none⟩, none, 0, false⟩, ⟨0, ⟨none, none⟩, none, 0, false⟩⟩, false⟩,
        cpCounters := ⟨⟨0, 0, 0, 0, 0, 0, 0, 0, 0, 0⟩, ⟨0, 0, 0, 0, 0, 0, 0, 0, 0, 0⟩⟩,
        counters := ⟨0, 0, 0⟩ } := by
  have ring : (List.replicate l.capacity RingSlot.emptySlot).map (fun _ => RingSlot.emptySlot) = List.replicate (2 ^ l.k) RingSlot.emptySlot := by
    simp [Layout.capacity]
  have framer : (v.line.opened l.mode).framer = if l.mode = .structured then .search else .notRequired := by
    cases l.mode <;> rfl
  rw [← ring, ← framer]
  rfl

theorem opened_active (v : Circuit) (l : Layout) (now : Time) : (v.opened l now).health.active = v.openPath := by
  unfold Circuit.openPath
  cases mode : v.pathSet.mode <;> simp [Circuit.opened, Circuit.intoAcquiring, Circuit.flush, Circuit.healthOpened, mode]

/-- Only the links count at the judgement of a circuit just opened: both its paths are USABLE. -/
theorem mustMove_opened {v : Circuit} {l : Layout} {now : Time} (at_ : s.circuit c = v.opened l now) :
    s.mustMove c = true ↔ (s.pathUnit v.openPath).linkUp = false ∧ (s.pathUnit v.openPath.other).linkUp = true := by
  have usable : (v.opened l now).health.degraded = ⟨false, false⟩ := rfl
  have none_ : ∀ π : Path, PerPath.get (⟨false, false⟩ : PerPath Bool) π = false := by
    intro π
    cases π <;> rfl
  unfold State.mustMove
  rw [at_, opened_active, usable]
  simp [none_]

/-- What Open Circuit posts about the line of the circuit (R33). -/
def openAlarm (c : CircuitId) (alarms : Nat) : List Event :=
  if alarms = 0 then [] else [⟨.circuit c, .lineAlarm, BitVec.ofNat 16 alarms⟩]

/-- The posts of Open Circuit after its judgement of the transmit path. -/
theorem openPosts_eq {w : Circuit} (at_ : s.circuit c = w) :
    (s.postOpenAlarms c).postCircuitState c .closed .acquiring =
      s.posted (openAlarm c w.alarmSet ++ [⟨.circuit c, .circuitState, 0x0001⟩]) := by
  subst at_
  have alarm : s.postOpenAlarms c = s.posted (openAlarm c (s.circuit c).alarmSet) := by
    unfold State.postOpenAlarms openAlarm
    by_cases none_ : (s.circuit c).alarmSet = 0
    · rw [if_pos none_, if_pos none_, posted_nil]
    · rw [if_neg none_, if_neg none_, post_eq_posted]
  rw [alarm, State.postCircuitState, post_eq_posted, posted_posted]
  rfl

/-- Open Circuit accepted: the circuit with the path it ends on, the pool, and the posts in their order (R14, R65). -/
theorem openCircuit_eq (s : State) (c : CircuitId) (l : Layout) :
    ∃ (active : Path) (tx : List Event),
      (if (s.circuit c).pathSet.mode = .single ∧ (s.pathUnit (s.circuit c).openPath).linkUp = false
            ∧ (s.pathUnit (s.circuit c).openPath.other).linkUp = true
        then active = (s.circuit c).openPath.other
          ∧ tx = [⟨.circuit c, .txPathChange, BitVec.ofNat 16 (pathCode (s.circuit c).openPath.other)⟩]
        else active = (s.circuit c).openPath ∧ tx = [])
      ∧ s.openCircuit c l =
          ((s.setCircuit c
              { (s.circuit c).opened l s.localTime with
                health := { ((s.circuit c).opened l s.localTime).health with active := active } }).setFreeBlocks
            (s.freeBlocks - l.neededBlocks)).posted
            (tx ++ (openAlarm c ((s.circuit c).opened l s.localTime).alarmSet ++ [⟨.circuit c, .circuitState, 0x0001⟩])) := by
  set w := (s.circuit c).opened l s.localTime with isOpened
  set s' := (s.setCircuit c w).setFreeBlocks (s.freeBlocks - l.neededBlocks) with stored
  have at_ : s'.circuit c = w := State.circuit_setCircuit_self s c w
  have paths : ∀ π, s'.pathUnit π = s.pathUnit π := fun _ => rfl
  have must := mustMove_opened at_
  rw [paths, paths] at must
  have active : w.health.active = (s.circuit c).openPath := opened_active _ _ _
  have mode : w.pathSet = (s.circuit c).pathSet := rfl
  have opened : s.openCircuit c l = ((s'.judgeTx c).postOpenAlarms c).postCircuitState c .closed .acquiring := rfl
  by_cases moves : (s.circuit c).pathSet.mode = .single ∧ (s.pathUnit (s.circuit c).openPath).linkUp = false
      ∧ (s.pathUnit (s.circuit c).openPath.other).linkUp = true
  · refine ⟨_, _, (if_pos moves).mpr ⟨rfl, rfl⟩, ?_⟩
    obtain ⟨single, links⟩ := moves
    rw [opened, judgeTx_moving at_ (mode ▸ single) nofun (must.mpr links), active]
    rw [openPosts_eq (w := { w with health := { w.health with active := (s.circuit c).openPath.other } })
      (by rw [posted_circuit, State.circuit_setCircuit_self]), posted_posted, stored, setCircuit_setFreeBlocks, State.setCircuit_setCircuit]
    rfl
  · refine ⟨_, _, (if_neg moves).mpr ⟨rfl, rfl⟩, ?_⟩
    have stays : s'.judgeTx c = s' := by
      refine judgeTx_staying fun single _ => ?_
      rw [at_, mode] at single
      rw [Bool.eq_false_iff, Ne, must]
      exact fun links => moves ⟨single, links⟩
    rw [opened, stays, openPosts_eq at_, ← active]
    rfl

/-- Settles O28: the checks in their order, and acceptance as the record, the pool and the posts that it leaves. -/
theorem openCircuitServed : Obligations.OpenCircuitServed := by
  intro p c l s frame range v tagFree
  have served : ∀ {result : State × List Octet}, ruleOpenCircuit (openParams c l) s = result →
      exec (.openCircuit p) s = .next (result.1.answers p result.2) :=
    fun done => exec_of_rule (rule := fun _ => ruleOpenCircuit) (fun _ _ => rfl) frame done
  have rule := ruleOpenCircuit_openParams (s := s) c range
  have closed_ : v.state = .closed → ¬(s.circuit c).isOpen = true := fun closed => by rw [isOpen_iff]; exact not_not.mpr closed
  have free : tagFree ↔ ¬s.tagInUse c l.remoteTag = true := by rw [Bool.not_eq_true, tagInUse_eq_false_iff]
  refine ⟨fun open_ => ?_, fun closed used => ?_, fun closed unused few => ?_, fun closed unused enough => ?_⟩
  · exact served (rule.trans (if_pos ((isOpen_iff _).mpr open_)))
  · exact served (rule.trans ((if_neg (closed_ closed)).trans (if_pos (by_contra fun none_ => used (free.mpr none_)))))
  · exact served (rule.trans ((if_neg (closed_ closed)).trans ((if_neg (free.mp unused)).trans (if_pos few))))
  · intro preferred moves alarms
    obtain ⟨active, tx, judged, opened⟩ := openCircuit_eq s c l
    refine ⟨s.openCircuit c l, served (rule.trans ((if_neg (closed_ closed)).trans ((if_neg (free.mp unused)).trans
      (if_neg (Nat.not_lt.mpr enough))))), ?_, ?_, ⟨active, ?_, ?_, ?_⟩, ⟨tx, openAlarm c alarms, ?_, ?_, ?_, ?_, ?_⟩, ?_⟩
    · rw [opened]
      rfl
    · intro d other
      rw [opened]
      exact State.circuit_setCircuit_ne _ _ other
    · exact fun moved => ((if_pos moved).mp judged).1
    · exact fun stays => ((if_neg stays).mp judged).1
    · rw [opened]
      exact (State.circuit_setCircuit_self _ _ _).trans (opened_eq v l s.localTime active)
    · exact fun moved => ((if_pos moved).mp judged).2
    · exact fun stays => ((if_neg stays).mp judged).2
    · exact fun none_ => if_pos none_
    · exact fun some_ => if_neg some_
    · rw [opened, opened_alarmSet, List.append_assoc]
      rfl
    · rw [opened]
      rfl

end Sys2Proof.Machine
end

section
/-! What the reading commands report (sections 1.7, 4.7, 5.8, 6.8, 7.5, 8.6 and 11.3). -/

namespace Sys2Proof.Machine

variable {p : Port} {c : CircuitId} {s : State}

/-! ### Fields of octets in words of 16 bits -/

theorem be_four_words (v : Nat) : be 4 v = be 2 (v / 65536) ++ be 2 (v % 65536) := by
  simp only [be, List.cons_append, List.nil_append, List.cons.injEq, and_true]
  refine ⟨?_, ?_, ?_, ?_⟩ <;> exact BitVec.eq_of_toNat_eq (by simp only [BitVec.toNat_ofNat, Nat.reducePow]; omega)

theorem be_six_words (v : Nat) : be 6 v = be 2 (v / 4294967296) ++ be 2 (v / 65536 % 65536) ++ be 2 (v % 65536) := by
  simp only [be, List.cons_append, List.nil_append, List.cons.injEq, and_true]
  refine ⟨?_, ?_, ?_, ?_, ?_, ?_⟩ <;> exact BitVec.eq_of_toNat_eq (by simp only [BitVec.toNat_ofNat, Nat.reducePow]; omega)

theorem be_four_mod (v : Nat) : be 4 (v % 4294967296) = be 4 v := by
  have split : v = v / 4294967296 * 256 ^ 4 + v % 4294967296 := by omega
  conv_rhs => rw [split, be_add_mul]

/-- The octets of an accepted command's result, from the octets of its data. -/
theorem okData_eq {data shown : List Octet} (same : data = shown) (n : Nat) (length : data.length = n) :
    okData data = [0x00, octet n] ++ shown := by
  rw [okData, resultFrame, length, same]
  rfl

theorem optionFlag_eq (b : Option Bool) : optionFlag b = (b.map flagOctet).getD 0xFF := by cases b <;> rfl

theorem judgementOctet_eq (b : Option Bool) : judgementOctet b = (b.map flagOctet).getD 0xFF := by
  cases b with
  | none => rfl
  | some b => cases b <;> rfl

theorem alignmentOctet_eq (w : BitVec 7) : w.setWidth 8 = octet w.toNat := by
  unfold octet
  exact BitVec.eq_of_toNat_eq (by simp)

/-! ### Read commands that change nothing -/

/-- A command that answers with data: its data octet by octet, and their number. -/
theorem exec_of_data {command : Port → Instr} {code : Octet} {rule : Port → List Octet → State → State × List Octet}
    (served : ∀ p s, exec (command p) s = .next (serve p code (rule p) s)) {ps data shown : List Octet} {t : State}
    (frame : s.frameAtOwner p code ps) (done : rule p ps s = (t, okData data)) (same : data = shown) (n : Nat)
    (length : data.length = n) : exec (command p) s = .next (t.answers p ([0x00, octet n] ++ shown)) := by
  rw [exec_of_rule served frame done, okData_eq same n length]

theorem isOpen_eq_decide (v : Circuit) : v.isOpen = decide (v.state ≠ .closed) := by
  rw [Bool.eq_iff_iff, isOpen_iff, decide_eq_true_eq]

/-- The acquisition time remaining is rounded up to units of 10 ms (R98). -/
theorem acqRemaining_of_running {v : Circuit} {start : Time} (runs : v.cursor.acqTimer = some start) (now : Time) :
    v.acqRemaining now = (v.layoutD.acqLimit * 100000 - (now - start).toNat + 99999) / 100000 := by
  rw [Circuit.acqRemaining, runs]
  rfl

/-- Settles O32: each result by its fields, words and octets; then the values derived for them. -/
theorem readsReport : Obligations.ReadsReport := by
  intro p c π s v l u two counter six signed k w r
  refine ⟨fun frame => ?_, fun frame => ?_, fun frame => ?_, fun frame => ?_, fun frame => ?_, fun frame => ?_, fun frame => ?_,
    fun stopped => ?_, fun start runs => ?_, fun l' has => ?_, fun unset => ?_, fun x y => rfl, rfl, rfl, rfl⟩
  · refine exec_of_data (rule := fun _ => ruleReadCircuit) (fun _ _ => rfl) frame
      (by rw [ruleReadCircuit, parseCircuit_circuitParams]) ?_ (19 + l.slots.length) ?_
    · rw [circuitData, be_two, be_two, be_two, be_two]
      rfl
    · simp [circuitData, be_length, l, v]
      omega
  · refine exec_of_data (rule := fun _ => ruleReadPlayout) (fun _ _ => rfl) frame
      (by rw [ruleReadPlayout, parseCircuit_circuitParams]) ?_ 30 (by simp [playoutData, be_length])
    rw [playoutData, optionFlag_eq, optionFlag_eq, be_four_words, be_two, be_two, be_two, be_two, isOpen_eq_decide]
    cases lead : u.leadPath with
    | none => rfl
    | some q => rfl
  · refine exec_of_data (rule := fun _ => ruleReadPaths) (fun _ _ => rfl) frame
      (by rw [ruleReadPaths, (parseReadPaths_reads.1 _ (.circuit c)).mpr ⟨trivial, rfl⟩]) ?_ 25 (by simp [circuitPathData, be_length])
    rw [circuitPathData, be_six_words, be_six_words]
    simp only [be_two]
    rfl
  · refine exec_of_data (rule := fun _ => ruleReadPaths) (fun _ _ => rfl) frame
      (by rw [ruleReadPaths, (parseReadPaths_reads.1 _ (.path π)).mpr ⟨trivial, rfl⟩]) ?_ 11 (by simp [pathData, be_length])
    rw [pathData, be_six_words]
    simp only [be_two]
    rfl
  · refine exec_of_data (rule := fun _ => ruleReadCounters) (fun _ _ => rfl) frame
      (by rw [ruleReadCounters, (parseReadCounters_reads.1 _ (.circuit c, π)).mpr ⟨rfl, rfl⟩]) ?_ 54 (by simp [circuitCounterData, counterOctets, be_length])
    simp only [circuitCounterData, List.flatMap_cons, List.flatMap_nil, counterOctets, be_four_words, be_two, List.append_assoc,
      List.append_nil]
    rfl
  · refine exec_of_data (rule := fun _ => ruleReadCounters) (fun _ _ => rfl) frame
      (by rw [ruleReadCounters, (parseReadCounters_reads.1 _ (.path π, .x)).mpr ⟨rfl, rfl⟩]) ?_ 17 (by simp [pathCounterData, counterOctets, be_length])
    simp only [pathCounterData, List.flatMap_cons, List.flatMap_nil, counterOctets, be_four_words, be_two, List.append_assoc,
      List.append_nil]
    rfl
  · refine exec_of_data (rule := fun _ => ruleReadReference) (fun _ _ => rfl) frame (by rw [ruleReadReference]; rfl) ?_ 18 (by simp [referenceData, beInt, be_length])
    have count : be 4 r.lastCount = counter (BitVec.ofNat 32 r.lastCount) := by
      rw [← be_four_mod, be_four_words, be_two, be_two]
      rfl
    simp only [referenceData, judgementOctet_eq, alignmentOctet_eq, beInt]
    rw [show be 4 s.ref.lastCount = _ from count, be_four_words, be_two, be_two]
    rfl
  · rw [Circuit.acqRemaining, show (s.circuit c).cursor.acqTimer = none from stopped]
  · intro left
    rw [show v.acqRemaining s.localTime = (left + 99999) / 100000 from acqRemaining_of_running runs s.localTime]
    omega
  · rw [Circuit.targetInUse, has]
    rfl
  · obtain head | hi := unset
    · rw [Cursor.span, head]
    · rw [Cursor.span, hi]
      cases u.head <;> rfl

/-! ### Read commands that clear the calling port's copies -/

theorem beOption_eq (v : Option Nat) :
    beOption v = (v.map (be 4)).getD [0xFF, 0xFF, 0xFF, 0xFF] := by
  cases v with
  | none => decide
  | some n => rfl

theorem asymmetry_eq_none {b : Probing} (one : b.record.x.smoothed = none ∨ b.record.y.smoothed = none) : b.asymmetry = none := by
  unfold Probing.asymmetry
  obtain x | y := one
  · rw [x]
  · rw [y]
    cases b.record.x.smoothed <;> rfl

theorem asymmetry_eq_some {b : Probing} {x y : Nat} (atX : b.record.x.smoothed = some x) (atY : b.record.y.smoothed = some y) :
    b.asymmetry = some ((x : Int) - y).natAbs := by
  rw [Probing.asymmetry, atX, atY]
  exact congrArg some (by omega)

/-- Settles O33: the data of each command, and the copies of the calling port that it clears. -/
theorem clearingReadsReport : Obligations.ClearingReadsReport := by
  intro p c s v two four signed optional onPath
  have four_ : ∀ n, be 4 n = four n := fun n => by rw [be_four_words, be_two, be_two]
  have optional_ : ∀ n, beOption n = optional n := fun n => by rw [beOption_eq, funext four_]
  refine ⟨fun frame => ?_, fun frame => ?_, asymmetry_eq_none, fun x y => asymmetry_eq_some⟩
  · refine ⟨{ v with timing := { v.timing with
        integratorSat := v.timing.integratorSat.set p false, outputSat := v.timing.outputSat.set p false } }, ?_, rfl,
      PerPort.get_set_self _ _ _, PerPort.get_set_self _ _ _, PerPort.get_set_ne _ _ p.other_ne, PerPort.get_set_ne _ _ p.other_ne⟩
    refine exec_of_data (rule := ruleReadTiming) (fun _ _ => rfl) frame (by rw [ruleReadTiming, parseCircuit_circuitParams]) ?_ 35 (by simp [timingData, beInt, be_length])
    simp only [timingData, beInt, four_, be_two]
    rfl
  · let cleared (π : Path) : DelayRecord := (v.probing.record.get π).clearMinimum p
    refine ⟨{ v with probing := { v.probing with record := ⟨cleared .x, cleared .y⟩ } }, ?_, rfl, fun π => ?_⟩
    · refine exec_of_data (rule := ruleReadDelay) (fun _ _ => rfl) frame (by rw [ruleReadDelay, parseCircuit_circuitParams]; rfl) ?_ 52 ?_
      · simp only [delayData, delayPathData, optional_, four_, be_two]
        rfl
      · simp [delayData, delayPathData, beOption, be_length]
    · have at_ : (⟨cleared .x, cleared .y⟩ : PerPath DelayRecord).get π = cleared π := by cases π <;> rfl
      intro r r'
      have new : r' = cleared π := at_
      rw [new]
      exact ⟨rfl, PerPort.get_set_self _ _ _, PerPort.get_set_ne _ _ p.other_ne⟩

end Sys2Proof.Machine
end

section
/-! The receive side of a line: its clock and bit periods, its alarms, its framer, and the frames it hands over (chapter 2). -/

namespace Sys2Proof.Machine

variable {c : CircuitId} {s : State}

/-! ### Bit periods and the receive clock (R21, R22) -/

/-- A bit period written out (R21, R25, R30, R31). -/
theorem takeBit_eq (v : Circuit) (crystal bit : Bool) :
    v.takeBit crystal bit =
      { v with line := { v.line with
        crystal := crystal, rxPhase := if crystal then v.line.rxPhase - 10000 else 0, rxCount := v.line.rxCount + 1,
        period := bit :: v.line.period,
        history := if (decide (v.state ≠ .closed) && decide (v.layoutD.mode = .structured)
            && (decide (v.line.framer = .search) || decide (v.line.framer = .verify))) = true
          then bit :: v.line.history else v.line.history,
        spaceRun := if v.line.los = true ∨ bit = true then 0 else v.line.spaceRun + 1,
        spanBits := v.line.spanBits + 1, spanSpaces := if bit then v.line.spanSpaces else v.line.spanSpaces + 1 } } := by
  rw [← isOpen_eq_decide]
  simp only [← Bool.or_eq_true]
  rfl

/-- A bit period of the crystal takes its length off the time that has run (R22). -/
theorem takeBit_crystal (v : Circuit) {phase : Nat} (left : v.line.rxPhase = phase) :
    v.takeBit true false =
      { v with line := { v.line with
        crystal := true, rxPhase := phase - 10000, rxCount := v.line.rxCount + 1, period := false :: v.line.period,
        history := if (decide (v.state ≠ .closed) && decide (v.layoutD.mode = .structured)
            && (decide (v.line.framer = .search) || decide (v.line.framer = .verify))) = true
          then false :: v.line.history else v.line.history,
        spaceRun := if v.line.los = true ∨ false = true then 0 else v.line.spaceRun + 1,
        spanBits := v.line.spanBits + 1, spanSpaces := v.line.spanSpaces + 1 } } := by
  subst left
  rw [takeBit_eq, if_pos rfl]
  rfl

theorem clockLossDue_eq_false (early : (s.circuit c).line.crystal = false → (s.circuit c).line.rxPhase < 20000) :
    (s.circuit c).clockLossDue = false := by
  rw [Bool.eq_false_iff, Ne, clockLossDue_iff]
  exact fun ⟨received, late⟩ => absurd (early received) (Nat.not_lt.mpr late)

theorem crystalBitDue_eq_false (early : (s.circuit c).line.crystal = true → (s.circuit c).line.rxPhase < 10000) :
    (s.circuit c).crystalBitDue = false := by
  rw [Bool.eq_false_iff, Ne, crystalBitDue_iff]
  exact fun ⟨crystal, late⟩ => absurd (early crystal) (Nat.not_lt.mpr late)

theorem settleClockLoss_eq (s : State) (c : CircuitId) (lost : (s.circuit c).line.crystal = false) (late : 20000 ≤ (s.circuit c).line.rxPhase) :
    s.settleClockLoss c = s.setCircuit c { s.circuit c with line := { (s.circuit c).line with crystal := true } } :=
  if_pos ((clockLossDue_iff _).mpr ⟨lost, late⟩)

theorem settleClockLoss_idle (idle : (s.circuit c).clockLossDue = false) : s.settleClockLoss c = s :=
  if_neg (Bool.eq_false_iff.mp idle)

/-- An edge of TRXC before which the line's clock has nothing left to count. -/
theorem trxcEdge_idle (mark : Bool) (loss : (s.circuit c).clockLossDue = false) (bit : (s.circuit c).crystalBitDue = false) :
    s.trxcEdge c mark = (s.settleLine c).setCircuit c (((s.settleLine c).circuit c).takeBit false mark) := by
  rw [State.trxcEdge, State.settleClock_idle loss bit]
  rfl

/-! ### The steps a line takes in their order (assumption 6) -/

theorem exec_lineStep {k : LineStep} (next : k.isNext (s.circuit c)) : exec (k.instr c) s = .next (s.lineStep c k) := by
  have due : (s.circuit c).stepDue k = true := stepDue_of_lineDue ((lineDue_eq_some_iff _ _).mpr next)
  cases k <;> exact congrArg Host.Outcome.next (if_pos due)

theorem lineDue_eq_none_iff (v : Circuit) : v.lineDue = none ↔ ∀ k : LineStep, ¬k.asked v := by
  have every : ∀ j : LineStep, j ∈ lineOrder := by
    intro j
    cases j <;> decide
  rw [lineDue_eq_find?, List.find?_eq_none]
  simp only [every, forall_const, stepDue_iff_asked]

theorem settleLineFor_idle (fuel : Nat) (idle : (s.circuit c).lineDue = none) : settleLineFor fuel s c = s := by
  cases fuel with
  | zero => rfl
  | succ fuel => rw [settleLineFor, idle]

theorem settleLineFor_step {k : LineStep} (fuel : Nat) (next : k.isNext (s.circuit c)) :
    settleLineFor (fuel + 1) s c = settleLineFor fuel (s.lineStep c k) c := by
  rw [settleLineFor, (lineDue_eq_some_iff _ _).mpr next]

/-- A chain of steps, each the next of the line it finds, is what the line takes until none is asked for. -/
theorem settleLineFor_chain (n fuel : Nat) (at_ : Nat → State) (enough : n ≤ fuel)
    (steps : ∀ i : Nat, i < n → ∃ k : LineStep, k.isNext ((at_ i).circuit c) ∧ exec (k.instr c) (at_ i) = .next (at_ (i + 1)))
    (idle : ∀ k : LineStep, ¬k.asked ((at_ n).circuit c)) : settleLineFor fuel (at_ 0) c = at_ n := by
  induction n generalizing fuel at_ with
  | zero => exact settleLineFor_idle fuel ((lineDue_eq_none_iff _).mpr idle)
  | succ n ih =>
    obtain ⟨k, next, taken⟩ := steps 0 (Nat.succ_pos n)
    obtain ⟨fuel, rfl⟩ := Nat.exists_eq_add_of_le' (Nat.lt_of_lt_of_le (Nat.succ_pos n) enough)
    have step : at_ 1 = (at_ 0).lineStep c k := Host.Outcome.next.inj (taken.symm.trans (exec_lineStep next))
    rw [settleLineFor_step fuel next, ← step]
    exact ih fuel (fun i => at_ (i + 1)) (Nat.le_of_succ_le_succ enough) (fun i lt => steps (i + 1) (Nat.succ_lt_succ lt)) idle

theorem settleLine_chain {n : Nat} {at_ : Nat → State} (enough : n ≤ 2048) (first : at_ 0 = s)
    (steps : ∀ i : Nat, i < n → ∃ k : LineStep, k.isNext ((at_ i).circuit c) ∧ exec (k.instr c) (at_ i) = .next (at_ (i + 1)))
    (idle : ∀ k : LineStep, ¬k.asked ((at_ n).circuit c)) : s.settleLine c = at_ n := by
  rw [State.settleLine, ← first, settleLineFor_chain n 2048 at_ enough steps idle]

/-- Settles O34: by the clock in use and the time since its last bit period; the steps taken before are the chain that the line asks for. -/
theorem receiveClock : Obligations.ReceiveClock := by
  intro c mark s crystal phase s' v l searching counted lost
  have phaseKept : l.rxPhase = phase := (s.settleLine_clock c).2
  have edge : ∀ bit, s'.setCircuit c (v.takeBit false bit) = counted false 0 bit := fun bit => by rw [takeBit_eq]; rfl
  have bit_ : s'.setCircuit c (v.takeBit true false) = counted true (phase - 10000) false := by
    rw [takeBit_crystal v phaseKept]
    rfl
  refine ⟨fun received early => ?_, fun received late => ?_, fun ticking early => ?_, fun ticking late => ?_, fun ticking => ?_,
    fun idle => State.settleLine_idle idle, fun n at_ enough first steps idle => ?_⟩
  · have loss : (s.circuit c).clockLossDue = false := clockLossDue_eq_false fun _ => early
    have bit : (s.circuit c).crystalBitDue = false := crystalBitDue_eq_false fun on => absurd (received.symm.trans on) (by decide)
    have taken : s.trxcEdge c mark = counted false 0 mark := (trxcEdge_idle mark loss bit).trans (edge mark)
    exact ⟨congrArg Host.Outcome.next ((if_neg (Bool.eq_false_iff.mp received)).trans taken), congrArg Host.Outcome.next taken, congrArg Host.Outcome.next (settleClockLoss_idle loss)⟩
  · have taken : s.trxcEdge c mark = lost.trxcEdge c mark := by
      rw [State.trxcEdge, State.settleClock_loss, settleClockLoss_eq s c received late]
      rfl
    exact ⟨congrArg Host.Outcome.next (settleClockLoss_eq s c received late),
      congrArg Host.Outcome.next ((if_neg (Bool.eq_false_iff.mp received)).trans taken), congrArg Host.Outcome.next taken⟩
  · have loss : (s.circuit c).clockLossDue = false :=
      clockLossDue_eq_false fun off => absurd (off.symm.trans ticking) (by decide)
    have bit : (s.circuit c).crystalBitDue = false := crystalBitDue_eq_false fun _ => early
    exact ⟨congrArg Host.Outcome.next ((if_pos ticking).trans (if_neg (Bool.eq_false_iff.mp bit))),
      congrArg Host.Outcome.next ((trxcEdge_idle mark loss bit).trans (edge mark))⟩
  · have due : (s.circuit c).crystalBitDue = true := (crystalBitDue_iff _).mpr ⟨ticking, late⟩
    have counts : s.crystalBit c = counted true (phase - 10000) false := bit_
    refine ⟨congrArg Host.Outcome.next ((if_pos ticking).trans ((if_pos due).trans counts)), congrArg Host.Outcome.next ?_⟩
    rw [State.trxcEdge, State.settleClock_bit due, counts]
    rfl
  · exact congrArg Host.Outcome.next (settleClockLoss_idle (clockLossDue_eq_false fun off => absurd (off.symm.trans ticking) (by decide)))
  · exact settleLine_chain enough first steps idle

/-! ### Line alarms (R30 to R33) -/

theorem loa_iff (v : Circuit) :
    v.loa = true ↔ v.state ≠ .closed ∧ v.layoutD.mode = .structured ∧ (v.line.framer = .search ∨ v.line.framer = .verify) := by
  simp [Circuit.loa, isOpen_iff, and_assoc]

theorem receiveFault_iff (v : Circuit) : v.receiveFault = true ↔ v.alarmSet ≠ 0 := by
  unfold Circuit.receiveFault Circuit.alarmSet
  cases v.line.los <;> cases v.line.ais <;> cases v.loa <;> decide

/-- A change of the alarm set posts once for a circuit outside CLOSED, and changes nothing itself. -/
theorem postAlarmChange_setCircuit (s : State) (c : CircuitId) (w : Circuit) (before : Nat) :
    (s.setCircuit c w).postAlarmChange c before =
      (s.setCircuit c w).posted
        (if w.state ≠ .closed ∧ w.alarmSet ≠ before then [⟨.circuit c, .lineAlarm, BitVec.ofNat 16 w.alarmSet⟩] else []) := by
  unfold State.postAlarmChange
  simp only [State.circuit_setCircuit_self, Bool.and_eq_true, isOpen_iff, bne_iff_ne]
  split <;> rfl

/-- A step that leaves the framer's state alone moves LOS and AIS alone in the alarm set. -/
theorem alarmSet_of_framer {v : Circuit} {l : Line} (framer : l.framer = v.line.framer) :
    ({ v with line := l } : Circuit).alarmSet = (if l.los then 1 else 0) + (if l.ais then 2 else 0) + (if v.loa then 4 else 0) := by
  have loa : ({ v with line := l } : Circuit).loa = v.loa := by
    show (v.isOpen && _ && (decide (l.framer = .search) || decide (l.framer = .verify))) = _
    rw [framer]
    rfl
  rw [Circuit.alarmSet, loa]

/-- Settles O35: the set by its three alarms; each step is its line, and a post where the set has changed. -/
theorem lineAlarmsJudged : Obligations.LineAlarmsJudged := by
  intro c s v l loa posted
  have loa_ : v.loa = true ↔ loa := loa_iff v
  have posts : ∀ (w : Line) (changed : Prop) (set : Nat), ({ v with line := w } : Circuit).alarmSet = set →
      (set ≠ v.alarmSet ↔ changed) → posted w changed set ((s.setCircuit c { v with line := w }).postAlarmChange c v.alarmSet) := by
    rintro w changed set rfl moved
    rw [postAlarmChange_setCircuit]
    refine ⟨fun ⟨open_, differs⟩ => ?_, fun quiet => ?_⟩
    · rw [if_pos ⟨open_, moved.mpr differs⟩]
      rfl
    · rw [if_neg fun ⟨open_, differs⟩ => quiet ⟨open_, moved.mp differs⟩, posted_nil]
  have alarms : v.alarmSet = (if l.los then 1 else 0) + (if l.ais then 2 else 0) + (if v.loa then 4 else 0) := rfl
  have after : ∀ w : Line, w.framer = l.framer →
      ({ v with line := w } : Circuit).alarmSet = (if w.los then 1 else 0) + (if w.ais then 2 else 0) + (if v.loa then 4 else 0) :=
    fun _ => alarmSet_of_framer
  refine ⟨fun present => ?_, fun absent => ?_, receiveFault_iff v, fun clear run => ?_, fun present marks => ?_, fun ends => ?_⟩
  · rw [alarms, if_pos (loa_.mpr present)]
  · rw [alarms, if_neg (mt loa_.mp absent)]
    rfl
  · have due : v.losSetDue = true := (stepDue_iff_asked v .losSet).mpr ⟨clear, run⟩
    have set : v.alarmSet + 1 = 1 + (if l.ais then 2 else 0) + (if v.loa then 4 else 0) := by
      rw [alarms, clear]
      simp only [Bool.false_eq_true, if_false]
      omega
    refine ⟨s.losSet c, congrArg Host.Outcome.next (if_pos due), posts _ _ _ ?_ ?_⟩
    · rw [set]
      exact after { l with los := true, markPeriods := 0, spaceRun := 0 } rfl
    · simp
  · have due : v.losClearDue = true := (stepDue_iff_asked v .losClear).mpr ⟨present, marks⟩
    have set : v.alarmSet = 0 + (if l.ais then 2 else 0) + (if v.loa then 4 else 0) + 1 := by
      rw [alarms, present, if_pos rfl]
      omega
    refine ⟨s.losClear c, congrArg Host.Outcome.next (if_pos due), posts _ _ _ ?_ ?_⟩
    · rw [set]
      exact after { l with los := false, markPeriods := 0, spaceRun := 0 } rfl
    · rw [set]
      simp
  · have due : v.aisSpanDue = true := (stepDue_iff_asked v .aisSpanEnd).mpr ends
    refine ⟨s.aisSpanEnd c, l.spanEnd.ais, congrArg Host.Outcome.next (if_pos due), ?_, posts l.spanEnd _ _ ?_ ?_⟩
    · simp only [Line.spanEnd]
      cases l.ais <;> simp
    · rw [after l.spanEnd rfl, alarms]
      change (if l.los = true then 1 else 0) + _ + _ = _
      omega
    · rw [alarms]
      cases l.ais <;> cases l.spanEnd.ais <;> simp <;> omega

end Sys2Proof.Machine
end

section
/-! The framer, the frames that the receive side hands over, and the packetizer (sections 2.1 to 2.3 and 3.1). -/

namespace Sys2Proof.Machine

variable {c : CircuitId} {s : State}

/-! ### Octets from bits (R23) -/

theorem bitsOctet_concat (bits : List Bool) (b : Bool) :
    bitsOctet (bits ++ [b]) = (bitsOctet bits <<< 1) ||| (if b then 1#8 else 0#8) := by
  simp [bitsOctet, List.foldl_append]

/-- The last bit is bit 0. -/
theorem getLsbD_bitsOctet_concat_zero (bits : List Bool) (b : Bool) : (bitsOctet (bits ++ [b])).getLsbD 0 = b := by
  rw [bitsOctet_concat]
  cases b <;> simp

/-- Each bit before the last stands one place higher. -/
theorem getLsbD_bitsOctet_concat_succ (bits : List Bool) (b : Bool) {j : Nat} (lt : j + 1 < 8) :
    (bitsOctet (bits ++ [b])).getLsbD (j + 1) = (bitsOctet bits).getLsbD j := by
  have clear : (if b then 1#8 else 0#8).getLsbD (j + 1) = false := by
    cases b
    · exact BitVec.getLsbD_zero
    · simp [BitVec.getLsbD_one]
  rw [bitsOctet_concat, BitVec.getLsbD_or, clear, Bool.or_false, BitVec.getLsbD_shiftLeft]
  simp [lt]

theorem getLsbD_bitsOctet (bits : List Bool) {j : Nat} (lt : j < 8) (inside : j < bits.length) :
    some ((bitsOctet bits).getLsbD j) = bits.reverse[j]? := by
  induction bits using List.reverseRecOn generalizing j with
  | nil => exact absurd inside (Nat.not_lt_zero j)
  | append_singleton bits b ih =>
    cases j with
    | zero =>
      rw [getLsbD_bitsOctet_concat_zero, List.reverse_append]
      rfl
    | succ j =>
      rw [getLsbD_bitsOctet_concat_succ bits b lt, ih (Nat.lt_of_succ_lt lt) (by simpa using inside)]
      simp

/-- The octet that begins at a place of a bit sequence, bit by bit, the first bit most significant. -/
theorem getLsbD_bitsOctet_at (bits : List Bool) (offset : Nat) {i : Nat} (lt : i < 8) (inside : offset + 8 ≤ bits.length) :
    some ((bitsOctet ((bits.drop offset).take 8)).getLsbD (7 - i)) = bits[offset + i]? := by
  have length : ((bits.drop offset).take 8).length = 8 := by
    rw [List.length_take, List.length_drop]
    omega
  rw [getLsbD_bitsOctet _ (by omega) (by omega), List.getElem?_reverse (by omega), length,
    show 8 - 1 - (7 - i) = i by omega, List.getElem?_take_of_lt lt, List.getElem?_drop]

/-! ### The framer (R25 to R28) -/

/-- What the judgement of a period for LOS clearance writes (R30). -/
theorem judgePeriod_shown (l : Line) (bits : List Bool) :
    l.judgePeriod bits =
      { l with markPeriods := if l.los = false then l.markPeriods else if true ∈ bits then l.markPeriods + 1 else 0 } := by
  unfold Line.judgePeriod
  cases los : l.los with
  | false => cases l; cases los; rfl
  | true => simp

/-- What a handed frame leaves of its circuit and of the rest (R40, R41). -/
theorem handFrame_circuit (s : State) (c : CircuitId) (octets : List Octet) (mark : Bool) :
    ∃ (z : Packetizer) (k : PerPath CpCounters),
      (s.handFrame c octets mark).circuit c = { s.circuit c with packetizer := z, cpCounters := k } := by
  obtain ⟨z, k, paths, handed⟩ := handFrame_handedFrom s c octets mark
  refine ⟨z, k, ?_⟩
  rw [handed]
  exact State.circuit_setCircuit_self _ _ _

theorem handFrame_attnAfter (s : State) (c : CircuitId) (octets : List Octet) (mark : Bool) (events : List Event) :
    (s.handFrame c octets mark).attnAfter events = s.attnAfter events := by
  obtain ⟨z, k, paths, handed⟩ := handFrame_handedFrom s c octets mark
  rw [handed]
  rfl

/-- Entry to ALIGNED: the substitute frame handed over, the line, and the event of LOA's clearing (R26, R28, R33). -/
theorem enterAligned_eq (open_ : (s.circuit c).state ≠ .closed) (mode : (s.circuit c).layoutD.mode = .structured)
    (verify : (s.circuit c).line.framer = .verify) :
    let handed := s.handFrame c (s.circuit c).substituteFrame (s.circuit c).receiveFault
    s.enterAligned c =
      (handed.setCircuit c { handed.circuit c with line := (s.circuit c).line.alignedEntry }).posted
        [⟨.circuit c, .lineAlarm,
          BitVec.ofNat 16 ((if (s.circuit c).line.los then 1 else 0) + (if (s.circuit c).line.ais then 2 else 0))⟩] := by
  intro handed
  obtain ⟨z, k, at_⟩ := handFrame_circuit s c (s.circuit c).substituteFrame (s.circuit c).receiveFault
  have loa : (s.circuit c).loa = true := (loa_iff _).mpr ⟨open_, mode, .inr verify⟩
  have entered : s.enterAligned c =
      (handed.setCircuit c { handed.circuit c with line := (handed.circuit c).line.alignedEntry }).postAlarmChange c (s.circuit c).alarmSet :=
    rfl
  have line : (handed.circuit c).line = (s.circuit c).line := s.handFrame_line c _ _
  have set : ({ handed.circuit c with line := (s.circuit c).line.alignedEntry } : Circuit).alarmSet =
      (if (s.circuit c).line.los then 1 else 0) + (if (s.circuit c).line.ais then 2 else 0) := by
    have clear : ({ handed.circuit c with line := (s.circuit c).line.alignedEntry } : Circuit).loa = false := by
      rw [Bool.eq_false_iff, Ne, loa_iff]
      rintro ⟨-, -, search | verify⟩ <;> simp [Line.alignedEntry] at *
    rw [Circuit.alarmSet, clear, Line.alignedEntry, judgePeriod_shown]
    rfl
  have changed : ({ handed.circuit c with line := (s.circuit c).line.alignedEntry } : Circuit).state ≠ .closed
      ∧ ({ handed.circuit c with line := (s.circuit c).line.alignedEntry } : Circuit).alarmSet ≠ (s.circuit c).alarmSet := by
    refine ⟨?_, ?_⟩
    · show (handed.circuit c).state ≠ .closed
      rw [show handed.circuit c = _ from at_]
      exact open_
    · rw [set, Circuit.alarmSet, loa, if_pos rfl]
      omega
  rw [entered, line, postAlarmChange_setCircuit, if_pos changed, set]

theorem loss_alarmSet {v : Circuit} {l : Line} (open_ : v.state ≠ .closed) (mode : v.layoutD.mode = .structured)
    (aligned : v.line.framer = .aligned) (search : l.framer = .search) (los : l.los = v.line.los) (ais : l.ais = v.line.ais) :
    ({ v with line := l } : Circuit).alarmSet = v.alarmSet + 4 := by
  have before : v.loa = false := by
    rw [Bool.eq_false_iff, Ne, loa_iff, aligned]
    rintro ⟨-, -, search | verify⟩
    · cases search
    · cases verify
  have after : ({ v with line := l } : Circuit).loa = true := (loa_iff _).mpr ⟨open_, mode, .inl search⟩
  rw [Circuit.alarmSet, Circuit.alarmSet, before, after]
  simp [los, ais]

theorem lossOfAlignment_eq (open_ : (s.circuit c).state ≠ .closed) (mode : (s.circuit c).layoutD.mode = .structured)
    (aligned : (s.circuit c).line.framer = .aligned) :
    s.lossOfAlignment c =
      (s.setCircuit c { s.circuit c with line := (s.circuit c).line.alignmentLost }).posted
        [⟨.circuit c, .lineAlarm, BitVec.ofNat 16 ((s.circuit c).alarmSet + 4)⟩] := by
  have set : ({ s.circuit c with line := (s.circuit c).line.alignmentLost } : Circuit).alarmSet = (s.circuit c).alarmSet + 4 :=
    loss_alarmSet open_ mode aligned rfl rfl rfl
  have lost : s.lossOfAlignment c =
      (s.setCircuit c { s.circuit c with line := (s.circuit c).line.alignmentLost }).postAlarmChange c (s.circuit c).alarmSet := rfl
  rw [lost, postAlarmChange_setCircuit, if_pos ⟨open_, by rw [set]; omega⟩, set]

/-- Settles O36: each step of the framer where it is due, by what its octet shows. -/
theorem framerSteps : Obligations.FramerSteps := by
  refine ⟨fun l offset i lt inside => getLsbD_bitsOctet_at _ offset lt (by simpa using inside), ?_⟩
  intro c s v l word low with_ failed open_ mode
  refine ⟨fun search reached => ?_, fun verify first reached => ?_, fun verify second reached => ?_, fun aligned even fresh octet8 => ?_,
    fun aligned run => ?_⟩
  · have due : v.searchDue = true := (stepDue_iff_asked v .search).mpr ⟨⟨open_, mode⟩, search, reached⟩
    have taken : exec (.framerSearchOctet c) s = .next (with_ (l.searchExamine word)) := congrArg Host.Outcome.next (if_pos due)
    exact ⟨fun same => taken.trans (congrArg (fun w => Host.Outcome.next (with_ w)) (if_pos same)),
      fun differs => taken.trans (congrArg (fun w => Host.Outcome.next (with_ w)) (if_neg differs))⟩
  · have due : v.verifyDue = true :=
      (stepDue_iff_asked v .verify).mpr ⟨⟨open_, mode⟩, verify, by rw [show v.line.firstTestPassed = false from first]; exact reached⟩
    have test : s.framerVerify c = if (l.historyOctet 256).getLsbD 6 = true then with_ { l with firstTestPassed := true } else failed :=
      if_neg (Bool.eq_false_iff.mp first)
    exact ⟨fun set => congrArg Host.Outcome.next ((if_pos due).trans (test.trans (if_pos set))),
      fun clear => congrArg Host.Outcome.next ((if_pos due).trans (test.trans (if_neg (Bool.eq_false_iff.mp clear))))⟩
  · have due : v.verifyDue = true :=
      (stepDue_iff_asked v .verify).mpr ⟨⟨open_, mode⟩, verify, by rw [show v.line.firstTestPassed = true from second]; exact reached⟩
    have test : s.framerVerify c = if low (l.historyOctet 512) = word then s.enterAligned c else failed := if_pos second
    refine ⟨fun differs => congrArg Host.Outcome.next ((if_pos due).trans (test.trans (if_neg differs))), fun same => ?_⟩
    intro handed
    have entry : l.alignedEntry =
        { l with
          framer := .aligned, firstTestPassed := false, erroredRun := 0, frameOdd := false, compared := true,
          markPeriods := if l.los = false then l.markPeriods else if true ∈ l.period then l.markPeriods + 1 else 0,
          period := l.history.take (l.rxCount - (l.candidate + 512)), history := [] } := by
      rw [Line.alignedEntry, judgePeriod_shown]
    refine congrArg Host.Outcome.next ((if_pos due).trans (test.trans ((if_pos same).trans ((enterAligned_eq open_ mode verify).trans ?_))))
    rw [State.posted, ← entry]
    exact congrArg (fun attn => ({ handed.setCircuit c { handed.circuit c with line := l.alignedEntry } with attn := attn } : State))
      (handFrame_attnAfter s c _ _ _)
  · have due : v.compareDue = true := (stepDue_iff_asked v .compare).mpr ⟨⟨open_, mode⟩, aligned, even, fresh, octet8⟩
    exact congrArg Host.Outcome.next (if_pos due)
  · have due : v.lossDue = true := (stepDue_iff_asked v .lossOfAlignment).mpr ⟨⟨open_, mode⟩, aligned, run⟩
    exact congrArg Host.Outcome.next ((if_pos due).trans (lossOfAlignment_eq open_ mode aligned))

/-! ### The frame that ends (R21, R23, R28) -/

theorem length_bitsOctets (n : Nat) (bits : List Bool) : (bitsOctets n bits).length = n := by
  induction n generalizing bits with
  | zero => rfl
  | succ n ih => rw [bitsOctets, List.length_cons, ih]

theorem getElem?_bitsOctets (bits : List Bool) {n k : Nat} (lt : k < n) :
    (bitsOctets n bits)[k]? = some (bitsOctet ((bits.drop (8 * k)).take 8)) := by
  induction n generalizing bits k with
  | zero => exact absurd lt (Nat.not_lt_zero k)
  | succ n ih =>
    cases k with
    | zero => rfl
    | succ k =>
      rw [bitsOctets, List.getElem?_cons_succ, ih (bits.drop 8) (Nat.lt_of_succ_lt_succ lt), List.drop_drop]
      congr 4
      omega

/-- An octet of a whole received period spells its eight bits. -/
theorem spells_bitsOctets {bits : List Bool} (whole : 256 ≤ bits.length) {n : Nat} {o : Octet} (lt : n < 32)
    (at_ : (bitsOctets 32 bits)[n]? = some o) {i : Nat} (bit : i < 8) : some (o.getLsbD (7 - i)) = bits[8 * n + i]? := by
  rw [getElem?_bitsOctets bits lt] at at_
  cases at_
  exact getLsbD_bitsOctet_at bits (8 * n) bit (by omega)

/-- A boundary judges the period that ends, the oldest 256 bits, and begins the next (R21, R30). -/
theorem boundary_eq (l : Line) :
    l.boundary =
      { l with
        markPeriods :=
          if l.los = false then l.markPeriods else if true ∈ l.period.drop (l.period.length - 256) then l.markPeriods + 1 else 0,
        period := l.period.take (l.period.length - 256), frameOdd := !l.frameOdd, compared := false } := by
  rw [Line.boundary, judgePeriod_shown]

/-- Settles O37: CLOSED hands nothing over; any other state hands over the received frame, by LOS, mode and framer. -/
theorem receivedFrameHandedOver : Obligations.ReceivedFrameHandedOver := by
  intro c s v l bits ended spells whole
  have due : v.boundaryDue = true := (stepDue_iff_asked v .boundary).mpr whole
  have whole_ : 256 ≤ bits.length := by simpa [bits] using whole
  have boundary : l.boundary = ended := boundary_eq l
  refine ⟨fun closed => ?_, fun open_ => ⟨v.receivedFrame, ?_⟩⟩
  · refine congrArg Host.Outcome.next ((if_pos due).trans ?_)
    rw [State.receiveBoundary, if_neg (by rw [isOpen_iff]; exact not_not.mpr closed), ← boundary]
    rfl
  · intro handed
    refine ⟨congrArg Host.Outcome.next ((if_pos due).trans ?_), fun present => if_pos present, fun absent mode => ?_, fun absent mode aligned => ?_,
      fun absent mode away => ?_⟩
    · have line : (handed.circuit c).line = l := s.handFrame_line c _ _
      rw [State.receiveBoundary, if_pos ((isOpen_iff _).mpr open_), ← boundary, ← line]
      rfl
    · have frame : v.receivedFrame = bitsOctets 32 bits := by
        rw [Circuit.receivedFrame, if_neg (Bool.eq_false_iff.mp absent), mode]
        rfl
      rw [frame]
      refine ⟨length_bitsOctets 32 bits, fun n o at_ i bit => spells_bitsOctets whole_ ?_ at_ bit⟩
      rw [← length_bitsOctets 32 bits]
      exact (List.getElem?_eq_some_iff.mp at_).1
    · have frame : v.receivedFrame = v.layoutD.slots.map fun n => (bitsOctets 32 bits).getD n 0xFF := by
        rw [Circuit.receivedFrame, if_neg (Bool.eq_false_iff.mp absent), mode]
        exact if_pos aligned
      rw [frame]
      refine ⟨List.length_map _, fun j n o slot lt at_ i bit => spells_bitsOctets whole_ lt ?_ bit⟩
      rw [List.getElem?_map, slot] at at_
      have octet_ := getElem?_bitsOctets bits lt
      have given : some ((bitsOctets 32 bits).getD n 0xFF) = some o := at_
      rw [List.getD_eq_getElem?_getD, octet_] at given
      exact octet_.trans given
    · rw [Circuit.receivedFrame, if_neg (Bool.eq_false_iff.mp absent), mode]
      exact if_neg away

/-! ### The packetizer (R39 to R46) -/

theorem transportHeader_data (l r p : Bool) (tag : Nat) (number : Seq) (fpp : Nat) :
    transportHeader .data l r p tag number fpp =
      [octet (0x40 + (if l then 8 else 0) + (if r then 4 else 0) + (if p then 2 else 0)), octet (tag / 256 % 16), octet (tag % 256),
        octet (number.toNat / 256), octet (number.toNat % 256), octet fpp] := by
  have high : tag % 4096 / 256 = tag / 256 % 16 := by omega
  have low : octet (tag % 4096 % 256) = octet (tag % 256) := by rw [Nat.mod_mod_of_dvd _ (by decide)]
  rw [transportHeader, be_two, be_two, high, low]
  rfl

theorem packetP_iff (v : Circuit) :
    v.packetP = true ↔ v.state ≠ .hold ∧ ¬(v.packetL = true ∧ v.playoutSet.suppress = true) := by
  rw [Circuit.packetP, Bool.and_eq_true, Bool.not_eq_true', decide_eq_false_iff_not, Bool.not_eq_true', ← Bool.not_eq_true,
    Bool.and_eq_true]

theorem handFrame_collecting {octets : List Octet} {mark : Bool}
    (running : (s.circuit c).packetizer.running = true) (collecting : (s.circuit c).packetizer.collecting = true) :
    s.handFrame c octets mark =
      let frames := (s.circuit c).packetizer.accumulator ++ [(octets, mark)]
      let held := s.setCircuit c { s.circuit c with packetizer := { (s.circuit c).packetizer with accumulator := frames } }
      if (s.circuit c).layoutD.fpp ≤ frames.length then held.completePacket c else held := by
  have held : (s.circuit c).packetizer.accumulator.length + 1 = ((s.circuit c).packetizer.accumulator ++ [(octets, mark)]).length := by
    simp
  unfold State.handFrame
  rw [if_pos (by simp [running, collecting]), held]

/-- Settles O38: whether the packetizer collects, and whether the packet is full; its fields are the circuit's as it completes. -/
theorem framePacketized : Obligations.FramePacketized := by
  intro c octets mark s v k d frames
  refine ⟨fun running collecting more => ?_, fun idle => ?_, fun running collecting full => ?_⟩
  · exact (handFrame_collecting running collecting).trans (if_neg (Nat.not_le.mpr more))
  · refine if_neg ?_
    rw [Bool.and_eq_true, not_and_or]
    exact idle.imp Bool.eq_false_iff.mp Bool.eq_false_iff.mp
  · let held : Circuit := { v with packetizer := { k with accumulator := frames } }
    have completes : s.handFrame c octets mark = (s.setCircuit c held).completePacket c :=
      (handFrame_collecting running collecting).trans (if_pos full)
    refine ⟨held.packetL, held.packetR, held.packetP, ?_⟩
    intro packet done
    have packet_ : held.dataPacket = packet := by
      rw [Circuit.dataPacket, transportHeader_data]
      rfl
    have done_ : (s.setCircuit c held).setCircuit c
        { held with packetizer := { held.packetizer with txSeq := held.packetizer.txSeq + 1, accumulator := [] } } = done :=
      State.setCircuit_setCircuit s c _ _
    refine ⟨?_, ?_, ?_, fun dual => ?_, fun single => ?_⟩
    · simp [Circuit.packetL, held]
    · simp [Circuit.packetR, held]
    · exact packetP_iff held
    · rw [completes, State.completePacket, State.circuit_setCircuit_self, packet_, done_, show held.pathSet.mode = .dual from dual]
    · rw [completes, State.completePacket, State.circuit_setCircuit_self, packet_, done_, show held.pathSet.mode = .single from single]

end Sys2Proof.Machine
end

section
/-! The take of a head slot, the transmit frame boundary, and the slots and bits of a transmit frame (sections 2.2, 2.5 and 5.5). -/

namespace Sys2Proof.Machine

variable {c : CircuitId} {s : State}

/-! ### The take of a head slot (R86 to R91) -/

theorem closeAtTable_iff (s : State) (c : CircuitId) (p : Port) :
    s.closeAtTable c p = true ↔ ∃ limit : Nat, limit ≤ 255 ∧ s.frameAtOwner p 0x11 (closeParams c limit) := by
  unfold State.closeAtTable State.frameAtOwner
  cases exchange : s.transit.get p with
  | none => simp
  | some x =>
    cases x with
    | returning r => simp
    | atOwner f =>
      obtain ⟨code, params⟩ := f
      simp only [Bool.and_eq_true, decide_eq_true_eq, Option.some.injEq, Transit.atOwner.injEq, CommandFrame.mk.injEq]
      cases parsed : parseClose params with
      | error e =>
        refine ⟨fun ⟨_, is⟩ => absurd is Bool.false_ne_true, fun ⟨limit, le, _, spells⟩ => ?_⟩
        rw [spells, parseClose_closeParams c le] at parsed
        cases parsed
      | ok x =>
        obtain ⟨d, limit⟩ := x
        obtain ⟨le, spells⟩ := (parseClose_reads.1 _ _).mp parsed
        refine ⟨fun ⟨code, same⟩ => ⟨limit, le, code, ?_⟩, fun ⟨limit', le', code, spells'⟩ => ⟨code, ?_⟩⟩
        · rw [← of_decide_eq_true same]
          exact spells
        · rw [spells', parseClose_closeParams c le'] at parsed
          cases parsed
          exact decide_eq_true rfl

theorem requestUnderrun_eq (v : Circuit) (head : Seq) (closes : PerPort Bool) :
    v.requestUnderrun head closes =
      { v.requests with underrun := some ⟨head, (v.requests.underrun.map UnderrunRequest.closesAhead).getD closes⟩ } := by
  unfold Circuit.requestUnderrun
  cases v.requests.underrun <;> rfl

theorem missedPaths_eq (set delivered : PerPath Bool) :
    missedPaths set delivered =
      (if set.get .x = true ∧ delivered.get .x = false then [.x] else [])
        ++ (if set.get .y = true ∧ delivered.get .y = false then [.y] else []) := by
  simp only [missedPaths, Bool.and_eq_true, Bool.not_eq_true']
  rfl

theorem takeHead_filled {v : Circuit} {head : Seq} (kind : (v.slotAt head).kind = .filled) (closes : PerPort Bool) :
    v.takeHead head closes =
      { v with cursor := { v.cursor with headTaken := true, missingRun := 0, farL := some (v.slotAt head).l } } := by
  rw [Circuit.takeHead, kind]

theorem takeHead_fault {v : Circuit} {head : Seq} (kind : (v.slotAt head).kind = .fault) (closes : PerPort Bool) :
    v.takeHead head closes =
      { v with
        cursor := { v.cursor with headTaken := true, missingRun := 0, farL := some (v.slotAt head).l },
        counters := { v.counters with faultFrames := v.counters.faultFrames + BitVec.ofNat 32 v.layoutD.fpp } } := by
  rw [Circuit.takeHead, kind]

theorem takeHead_empty {v : Circuit} {head : Seq} (kind : (v.slotAt head).kind = .empty) (closes : PerPort Bool) :
    v.takeHead head closes =
      { v with
        cursor := { v.cursor with headTaken := true, missingRun := min 255 (v.cursor.missingRun + 1) },
        counters := { v.counters with
          missing := v.counters.missing + 1, concealed := v.counters.concealed + BitVec.ofNat 32 v.layoutD.fpp },
        requests := { v.requests with
          underrun :=
            if v.state = .running ∧ min 255 (v.cursor.missingRun + 1) = v.layoutD.lossThreshold then
              some ⟨head, (v.requests.underrun.map UnderrunRequest.closesAhead).getD closes⟩
            else v.requests.underrun } } := by
  rw [Circuit.takeHead, kind]
  dsimp only
  rw [requestUnderrun_eq]
  split <;> rfl

/-- The take that is due: the circuit it leaves, and the bad steps of the paths that did not deliver (R86). -/
theorem takeIfDue_eq (head : Seq) (first : (s.circuit c).cursor.frameIndex = 0) (fresh : (s.circuit c).cursor.headTaken = false) :
    s.takeIfDue c head =
      let w := (s.circuit c).takeHead head ⟨s.closeAtTable c .cp0, s.closeAtTable c .cp1⟩
      if (s.circuit c).state = .running then
        (missedPaths (s.circuit c).pathSet.receiveSet ((s.circuit c).slotAt head).deliveredBy).foldl
          (fun t π => t.healthStep c π false) (s.setCircuit c w)
      else s.setCircuit c w :=
  if_pos ⟨first, by rw [fresh]; rfl⟩

theorem slotAt_of_getElem? {v : Circuit} {n : Seq} {r : RingSlot} (at_ : v.ring[n.toNat % 2 ^ v.layoutD.k]? = some r) :
    v.slotAt n = r := by
  show v.ring.getD (n.toNat % 2 ^ v.layoutD.k) .emptySlot = r
  rw [List.getD_eq_getElem?_getD, at_]
  rfl

/-- Settles O39: a head already taken stays; one to be taken by the state of its slot. -/
theorem headSlotTaken : Obligations.HeadSlotTaken := by
  intro c head s v u slot fpp run bad judged
  have taken : u.frameIndex = 0 → u.headTaken = false → ∀ w : Circuit,
      v.takeHead head ⟨s.closeAtTable c .cp0, s.closeAtTable c .cp1⟩ = w → s.takeIfDue c head = judged w := by
    rintro first fresh w rfl
    rw [takeIfDue_eq head first fresh, missedPaths_eq]
  refine ⟨fun r => slotAt_of_getElem?, fun before => if_neg ?_, fun first fresh => ⟨fun kind => ?_, fun kind => ?_, fun kind => ?_⟩⟩
  · rintro ⟨first, fresh⟩
    obtain later | already := before
    · exact later first
    · rw [already] at fresh
      exact absurd fresh (by decide)
  · exact taken first fresh _ (takeHead_filled kind _)
  · exact taken first fresh _ (takeHead_fault kind _)
  · refine ⟨⟨s.closeAtTable c .cp0, s.closeAtTable c .cp1⟩, fun p => ?_, taken first fresh _ (takeHead_empty kind _)⟩
    rw [← closeAtTable_iff]
    cases p <;> exact Iff.rfl

/-! ### The transmit frame boundary (R34, R35, R87 to R90) -/

/-- The line as a frame of this kind with these octets begins (R34, R100). -/
def Circuit.begunLine (v : Circuit) (kind : TxKind) (octets : List Octet) : Line :=
  { v.line with
    txOdd := !v.line.txOdd, txKind := kind, txOctets := octets, txRate := if v.state = .closed then 0 else v.timing.c,
    txPhase := v.line.txPhase - 1250000000000 }

theorem beginFrame_eq (v : Circuit) (kind : TxKind) (octets : List Octet) :
    v.beginFrame kind octets = { v with line := v.begunLine kind octets } := by
  have rate : (if v.isOpen then v.timing.c else 0) = if v.state = .closed then 0 else v.timing.c := by
    rw [isOpen_eq_decide]
    by_cases closed : v.state = .closed <;> simp [closed]
  unfold Circuit.begunLine
  rw [← rate]
  rfl

theorem concealedFrame_eq (v : Circuit) :
    v.concealedFrame =
      if v.playoutSet.concealment = .fill then List.replicate v.layoutD.octetsPerFrame v.playoutSet.fillOctet
      else v.cursor.lastPlayed.getD (List.replicate v.layoutD.octetsPerFrame v.playoutSet.fillOctet) := by
  unfold Circuit.concealedFrame
  cases v.playoutSet.concealment <;> rfl

/-- The circuit as the frame from the head slot ends, or goes on within its packet (R90). -/
theorem freeIfLast_eq (v : Circuit) (head : Seq) :
    v.freeIfLast head =
      let filled := if (v.slotAt head).kind = .empty then v.cursor.filledCount else v.cursor.filledCount - 1
      if v.layoutD.fpp ≤ v.cursor.frameIndex + 1 then
        { v with
          ring := v.ring.set (head.toNat % 2 ^ v.layoutD.k) .emptySlot,
          cursor := { v.cursor with
            head := some (head + 1), frameIndex := 0, headTaken := false, filledCount := filled,
            hi := if filled = 0 then none else v.cursor.hi },
          requests := { v.requests with
            drainComplete :=
              if (v.slotAt head).kind ≠ .empty ∧ filled = 0 ∧ v.state = .closing then true else v.requests.drainComplete } }
      else { v with cursor := { v.cursor with frameIndex := v.cursor.frameIndex + 1 } } := by
  have count : (if (v.slotAt head).kind ≠ .empty then v.cursor.filledCount - 1 else v.cursor.filledCount)
      = if (v.slotAt head).kind = .empty then v.cursor.filledCount else v.cursor.filledCount - 1 := ite_not _ _ _
  unfold Circuit.freeIfLast
  dsimp only
  rw [count]
  by_cases last : v.layoutD.fpp ≤ v.cursor.frameIndex + 1
  · rw [if_pos last, if_pos last]
    split_ifs <;> rfl
  · rw [if_neg last, if_neg last]

/-- The frame that a slot which is not FAULT gives (R87, R89). -/
def Circuit.slotFrame (v : Circuit) (head : Seq) : List Octet :=
  if (v.slotAt head).kind = .filled then (v.slotAt head).payload.getD v.cursor.frameIndex [] else v.concealedFrame

/-- The line as the frame from the head slot begins (R87 to R89). -/
def Circuit.playedLine (v : Circuit) (word : BitVec 7) (head : Seq) : Line :=
  if (v.slotAt head).kind = .fault then v.begunLine .conditioning (List.replicate 32 0xFF)
  else v.begunLine .traffic (v.trafficFrame word (!v.line.txOdd) (v.slotFrame head))

/-- The circuit as the frame from the head slot begins, before the slot is freed or the frame index rises. -/
def Circuit.played (v : Circuit) (word : BitVec 7) (head : Seq) : Circuit :=
  { v with
    line := v.playedLine word head,
    cursor := { v.cursor with
      lastPlayed := if (v.slotAt head).kind = .filled then some (v.slotFrame head) else v.cursor.lastPlayed } }

theorem slotAt_withLine (v : Circuit) (l : Line) (head : Seq) : ({ v with line := l } : Circuit).slotAt head = v.slotAt head := rfl

theorem givenFrame_of_fault {v : Circuit} {head : Seq} (kind : (v.slotAt head).kind = .fault) : v.givenFrame head = none := by
  rw [Circuit.givenFrame, kind]

theorem givenFrame_of_ne_fault {v : Circuit} {head : Seq} (kind : (v.slotAt head).kind ≠ .fault) :
    v.givenFrame head = some (v.slotFrame head) := by
  unfold Circuit.givenFrame Circuit.slotFrame
  dsimp only
  cases is : (v.slotAt head).kind with
  | fault => exact absurd is kind
  | filled => rfl
  | empty => rfl

theorem notePlayed_withLine (v : Circuit) (l : Line) (head : Seq) :
    ({ v with line := l } : Circuit).notePlayed head =
      { v with
        line := l,
        cursor := { v.cursor with
          lastPlayed := if (v.slotAt head).kind = .filled then some (v.slotFrame head) else v.cursor.lastPlayed } } := by
  unfold Circuit.notePlayed
  rw [slotAt_withLine]
  by_cases filled : (v.slotAt head).kind = .filled
  · have given : ({ v with line := l } : Circuit).givenFrame head = some (v.slotFrame head) :=
      givenFrame_of_ne_fault (v := { v with line := l }) fun fault => nomatch filled.symm.trans fault
    rw [if_pos filled, if_pos filled, given]
  · rw [if_neg filled, if_neg filled]

theorem playFrame_eq {head : Seq} {t : State} (taken : s.takeIfDue c head = t) :
    s.playFrame c head = t.setCircuit c (((t.circuit c).played t.ref.alignmentWord head).freeIfLast head) := by
  subst taken
  unfold State.playFrame
  rw [State.updCircuit_eq]
  refine congrArg ((s.takeIfDue c head).setCircuit c) (congrArg (Circuit.freeIfLast · head) ?_)
  generalize (s.takeIfDue c head).circuit c = v
  unfold Circuit.played Circuit.playedLine
  by_cases fault : (v.slotAt head).kind = .fault
  · rw [if_pos fault, givenFrame_of_fault fault]
    dsimp only
    rw [beginFrame_eq, notePlayed_withLine]
    rfl
  · rw [if_neg fault, givenFrame_of_ne_fault fault]
    dsimp only
    rw [beginFrame_eq, notePlayed_withLine]

theorem healthSteps_ref (paths : List Path) (s : State) (c : CircuitId) :
    (paths.foldl (fun t π => t.healthStep c π false) s).ref = s.ref := by
  induction paths generalizing s with
  | nil => rfl
  | cons π rest ih =>
    obtain ⟨health, attn, step⟩ := s.healthStep_eq c π false
    have kept : (s.healthStep c π false).ref = s.ref := by
      rw [step]
      rfl
    exact (ih _).trans kept

theorem takeIfDue_ref (s : State) (c : CircuitId) (head : Seq) : (s.takeIfDue c head).ref = s.ref := by
  unfold State.takeIfDue
  dsimp only
  split
  · split
    · exact healthSteps_ref _ _ _
    · rfl
  · rfl

/-- Drain remaining falls, or the boundaries of the packet are counted (R16). -/
theorem drainBoundary_eq (v : Circuit) :
    v.drainBoundary =
      if v.state ≠ .closing then v
      else if v.layoutD.fpp ≤ v.drainFrames + 1 then { v with drainFrames := 0, drainRemaining := v.drainRemaining - 1 }
      else { v with drainFrames := v.drainFrames + 1 } :=
  (ite_not _ _ _).symm

theorem transmitBoundary_conditioning (idle : ¬((s.circuit c).state = .running ∨ (s.circuit c).state = .closing)) :
    s.transmitBoundary c =
      s.setCircuit c { s.circuit c with line := (s.circuit c).begunLine .conditioning (List.replicate 32 0xFF) } := by
  unfold State.transmitBoundary
  dsimp only
  rw [if_neg idle]
  dsimp only
  rw [State.updCircuit_eq, State.updCircuit_eq, State.circuit_setCircuit_self, State.setCircuit_setCircuit, beginFrame_eq, drainBoundary_eq,
    if_pos fun closing => idle (.inr closing)]
  rfl

theorem transmitBoundary_playing {head : Seq} {t : State} (plays : (s.circuit c).state = .running ∨ (s.circuit c).state = .closing)
    (set : (s.circuit c).cursor.head = some head) (taken : s.takeIfDue c head = t) :
    s.transmitBoundary c =
      t.setCircuit c (((t.circuit c).played t.ref.alignmentWord head).freeIfLast head).drainBoundary := by
  unfold State.transmitBoundary
  dsimp only
  rw [if_pos plays, set]
  dsimp only
  rw [playFrame_eq taken, State.updCircuit_eq, State.circuit_setCircuit_self, State.setCircuit_setCircuit]

/-- Settles O40: conditioning where nothing is played, and otherwise the frame, the slot and the drain in their order. -/
theorem transmitFrameBoundary : Obligations.TransmitFrameBoundary := by
  intro c s due v ones begun
  have boundary : exec (.transmitFrameBoundary c) s = .next (s.transmitBoundary c) :=
    congrArg Host.Outcome.next (if_pos ((transmitDue_iff _).mpr due))
  refine ⟨fun idle => ?_, fun head plays set => ?_⟩
  · rw [boundary, transmitBoundary_conditioning]
    · rfl
    · rintro (other | other) <;> rcases idle with is | is | is <;> exact nomatch is.symm.trans other
  · intro taken w u slot fill frame line played filled after
    have frame_ : w.slotFrame head = frame := by
      rw [Circuit.slotFrame, concealedFrame_eq]
    have line_ : w.playedLine taken.ref.alignmentWord head = line := by
      rw [Circuit.playedLine, frame_, show taken.ref = s.ref from takeIfDue_ref s c head]
      rfl
    have after_ : (w.played taken.ref.alignmentWord head).freeIfLast head = after := by
      rw [freeIfLast_eq, Circuit.played, frame_, line_]
      rfl
    have kept : after.state = w.state ∧ after.layoutD = w.layoutD ∧ after.drainFrames = w.drainFrames
        ∧ after.drainRemaining = w.drainRemaining := by
      simp only [after]
      split <;> exact ⟨rfl, rfl, rfl, rfl⟩
    obtain ⟨state, layout, frames, remaining⟩ := kept
    rw [boundary, transmitBoundary_playing (t := taken) plays set rfl, after_, drainBoundary_eq, state, layout, frames, remaining]

/-! ### The slots and bits of a transmit frame (R24, R34, R36, R37) -/

theorem getElem?_octetBits (o : Octet) {i : Nat} (lt : i < 8) : (octetBits o)[i]? = some (o.getLsbD (7 - i)) := by
  match i, lt with
  | 0, _ | 1, _ | 2, _ | 3, _ | 4, _ | 5, _ | 6, _ | 7, _ => rfl

/-- The bits of octets in line order: eight of each, the most significant first. -/
theorem getElem?_flatMap_octetBits (octets : List Octet) (k : Nat) :
    (octets.flatMap octetBits)[k]? = octets[k / 8]?.map fun o => o.getLsbD (7 - k % 8) := by
  induction octets generalizing k with
  | nil => simp
  | cons o rest ih =>
    have eight : (octetBits o).length = 8 := rfl
    rw [List.flatMap_cons]
    by_cases first : k < 8
    · rw [List.getElem?_append_left (by omega), getElem?_octetBits o first, Nat.div_eq_of_lt first, Nat.mod_eq_of_lt first]
      rfl
    · obtain ⟨j, rfl⟩ := Nat.exists_eq_add_of_le (Nat.not_lt.mp first)
      rw [List.getElem?_append_right (by omega), eight, Nat.add_sub_cancel_left, ih, Nat.add_div_left _ (by decide),
        Nat.add_mod_left, List.getElem?_cons_succ]

theorem ttxd_of_bit {k : Nat} {o : Octet} (index : (s.circuit c).line.txBitIndex = k)
    (at_ : (s.circuit c).line.txOctets[k / 8]? = some o) : s.ttxd c = o.getLsbD (7 - k % 8) := by
  show ((s.circuit c).line.txOctets.flatMap octetBits).getD (s.circuit c).line.txBitIndex true = _
  rw [index, List.getD_eq_getElem?_getD, getElem?_flatMap_octetBits, at_]
  rfl

theorem ascending_pairwise {slots : List Nat} (h : ascending slots = true) : slots.Pairwise (· < ·) := by
  induction slots with
  | nil => exact .nil
  | cons a rest ih =>
    cases rest with
    | nil => exact List.pairwise_singleton _ _
    | cons b rest =>
      simp only [ascending, Bool.and_eq_true, decide_eq_true_eq] at h
      obtain ⟨lt, further⟩ := h
      have sorted := ih further
      refine List.pairwise_cons.mpr ⟨fun n member => ?_, sorted⟩
      obtain rfl | later := List.mem_cons.mp member
      · exact lt
      · exact lt.trans ((List.pairwise_cons.mp sorted).1 n later)

/-- The slots of a STRUCTURED layout: each in 1..31, and none twice (R1). -/
theorem structured_slots {l : Layout} (range : l.wellFormed = true) (mode : l.mode = .structured) :
    (∀ n ∈ l.slots, 1 ≤ n ∧ n ≤ 31) ∧ l.slots.Nodup := by
  obtain ⟨slots, -⟩ := l.wellFormed_iff.mp range
  rw [mode] at slots
  simp only [slotsWellFormed, Bool.and_eq_true, decide_eq_true_eq, List.all_eq_true] at slots
  obtain ⟨⟨-, each⟩, sorted⟩ := slots
  exact ⟨each, (ascending_pairwise sorted).imp fun lt => lt.ne⟩

/-- The octet of line slot `n` of a traffic frame, slot 0 apart (R36). -/
theorem trafficFrame_slot {v : Circuit} (mode : v.layoutD.mode = .structured) (word : BitVec 7) (odd : Bool) (frame : List Octet) {n : Nat}
    (low : 1 ≤ n) (high : n ≤ 31) :
    (v.trafficFrame word odd frame)[n]? = some (carriedSlot v.layoutD.slots frame v.playoutSet.fillOctet n) := by
  obtain ⟨m, rfl⟩ := Nat.exists_eq_add_of_le' low
  rw [Circuit.trafficFrame, mode]
  dsimp only
  rw [List.getElem?_cons_succ, List.getElem?_map, List.getElem?_range (by omega)]
  rfl

theorem carriedSlot_of_mem {slots : List Nat} (nodup : slots.Nodup) {frame : List Octet} (length : frame.length = slots.length) (fill : Octet)
    {j n : Nat} (at_ : slots[j]? = some n) : some (carriedSlot slots frame fill n) = frame[j]? := by
  obtain ⟨lt, rfl⟩ := List.getElem?_eq_some_iff.mp at_
  have member : slots.contains slots[j] = true := List.contains_iff_mem.mpr (List.getElem_mem lt)
  rw [carriedSlot, if_pos member, nodup.idxOf_getElem j lt, List.getD_eq_getElem?_getD, List.getElem?_eq_getElem (by omega)]
  rfl

theorem slotZero_shows (word : BitVec 7) (odd fault : Bool) :
    (slotZero word odd fault).getLsbD 7 = true ∧ (odd = false → (slotZero word odd fault).setWidth 7 = word)
      ∧ (odd = true → slotZero word odd fault = if fault = true then 0xFF else 0xDF) := by
  unfold slotZero
  cases odd with
  | true =>
    refine ⟨?_, nofun, fun _ => rfl⟩
    cases fault <;> simp
  | false =>
    refine ⟨?_, fun _ => ?_, nofun⟩
    · simp
    · ext i lt
      simp

/-- Settles O41: the bit by its place in the frame; the slots by the mode, and in STRUCTURED mode by what they carry. -/
theorem trafficFrameSlots : Obligations.TrafficFrameSlots := by
  refine ⟨fun c s => ⟨fun k o lt low high at_ => ttxd_of_bit ?_ at_, fun o past at_ => ttxd_of_bit (k := 255) ?_ at_⟩, ?_⟩
  · have index : (s.circuit c).line.txPhase / 4882812500 = k := Nat.div_eq_of_lt_le low high
    show min 255 ((s.circuit c).line.txPhase / 4882812500) = k
    omega
  · show min 255 ((s.circuit c).line.txPhase / 4882812500) = 255
    omega
  · intro v word odd frame
    refine ⟨fun mode => by rw [Circuit.trafficFrame, mode], fun range mode length => ?_⟩
    obtain ⟨each, nodup⟩ := structured_slots range mode
    have shape : v.trafficFrame word odd frame =
        slotZero word odd v.receiveFault
          :: (List.range 31).map fun n => carriedSlot v.layoutD.slots frame v.playoutSet.fillOctet (n + 1) := by
      rw [Circuit.trafficFrame, mode]
    refine ⟨?_, ⟨slotZero word odd v.receiveFault, ?_, slotZero_shows word odd _⟩, fun j n at_ => ?_, fun n low high other => ?_⟩
    · rw [shape]
      simp
    · rw [shape]
      rfl
    · obtain ⟨low, high⟩ := each n (List.mem_of_getElem? at_)
      rw [trafficFrame_slot mode word odd frame low high, carriedSlot_of_mem nodup length _ at_]
    · rw [trafficFrame_slot mode word odd frame low high, carriedSlot, if_neg (mt List.contains_iff_mem.mp other)]

end Sys2Proof.Machine
end

section
/-! The paths: packets queued and sent, health and the transmit path, link events, and the two path commands (chapter 4). -/

namespace Sys2Proof.Machine

variable {c : CircuitId} {π : Path} {s : State}

/-! ### Queueing and departure (R48, R59, R60, R134) -/

theorem txDrop_eq (s : State) (π : Path) (c : CircuitId) :
    s.txDrop π c =
      s.setCircuit c { s.circuit c with
        cpCounters := (s.circuit c).cpCounters.set π
          { (s.circuit c).cpCounters.get π with txDrops := ((s.circuit c).cpCounters.get π).txDrops + 1 } } := rfl

/-- What stands in an outstanding list after a departure, and how many entries that removes, the new one counted (R134). -/
theorem departedList_length (list : List Outstanding) (number : Seq) (t1 : Time) :
    (list.length + 1 - (departedList list number t1).length) + (departedList list number t1).length = list.length + 1 := by
  have fewer : (list.filter fun e => e.number != number).length ≤ list.length := List.length_filter_le _ _
  have le : (departedList list number t1).length ≤ list.length + 1 := by
    unfold departedList
    dsimp only
    split <;> simp <;> omega
  omega

theorem stamped_eq (e : QueueEntry) (now : Time) :
    e.stamped now = if e.kind = .data then e.packet else e.packet ++ be 4 now.toNat := by
  unfold QueueEntry.stamped
  cases e.kind <;> rfl

theorem frame_eq (e : QueueEntry) (now : Time) :
    e.frame now =
      let stamped := if e.kind = .data then e.packet else e.packet ++ be 4 now.toNat
      let fields := be 6 e.destination.toNat ++ be 6 e.source.toNat ++ be 2 e.typeCode.toNat ++ stamped
        ++ List.replicate (46 - stamped.length) 0x00
      fields ++ fcs fields := by
  unfold QueueEntry.frame padded
  rw [stamped_eq]
  simp only [List.append_assoc]

/-- The state after a departure, but for what the probe unit takes of it. -/
def State.sentFrom (s : State) (π : Path) (e : QueueEntry) : State :=
  (s.setPath π ((s.pathUnit π).departed (e.frame s.localTime))).setCircuit e.circuit
    ((s.circuit e.circuit).bumpCp π fun k => { k with sent := k.sent + 1 })

theorem depart_of_ne_probe {e : QueueEntry} (kind : e.kind ≠ .probe) : s.depart π e = s.sentFrom π e := by
  unfold State.depart
  cases is : e.kind with
  | probe => exact absurd is kind
  | data => rfl
  | echo => rfl

theorem depart_of_probe {e : QueueEntry} (kind : e.kind = .probe) :
    s.depart π e = (s.sentFrom π e).probeDeparted e.circuit π e.number s.localTime := by
  rw [State.depart, kind]
  rfl

theorem sentFrom_circuit (s : State) (π : Path) (e : QueueEntry) :
    (s.sentFrom π e).circuit e.circuit = (s.circuit e.circuit).bumpCp π fun k => { k with sent := k.sent + 1 } :=
  State.circuit_setCircuit_self _ _ _

theorem exec_frameDeparture {e : QueueEntry} {rest : List QueueEntry} (queue : (s.pathUnit π).queue = e :: rest)
    (up : (s.pathUnit π).linkUp = true) (free : (s.pathUnit π).macBusyNs < 100) : exec (.frameDeparture π) s = .next (s.depart π e) := by
  have due : (s.pathUnit π).departureDue = true := (departureDue_iff _).mpr ⟨up, free, by rw [queue]; exact List.cons_ne_nil _ _⟩
  show execFrameDeparture π s = _
  rw [execFrameDeparture, due, queue]

/-- Settles O42: the hand-off by the checks of R59, and the departure by the kind of its packet. -/
theorem packetQueuedAndSent : Obligations.PacketQueuedAndSent := by
  refine ⟨by decide +kernel, fun π c kind number packet s => ?_, fun π e rest s => ?_⟩
  · intro u v k dropped
    refine ⟨fun off => if_pos off, fun on down => ?_, fun on up full => ?_, fun on up room => ?_⟩
    · exact (if_neg on).trans (if_pos (show (!(s.pathUnit π).linkUp) = true by rw [show (s.pathUnit π).linkUp = false from down]; rfl))
    · have linked : ¬(!(s.pathUnit π).linkUp) = true := by rw [show (s.pathUnit π).linkUp = true from up]; decide
      exact (if_neg on).trans ((if_neg linked).trans (if_pos full))
    · have linked : ¬(!(s.pathUnit π).linkUp) = true := by rw [show (s.pathUnit π).linkUp = true from up]; decide
      exact (if_neg on).trans ((if_neg linked).trans (if_neg (Nat.not_le.mpr room)))
  · intro u v k stamped fields frame sent distinct list queue up free
    have frame_ : e.frame s.localTime = frame := frame_eq e s.localTime
    have unit_ : u.departed frame =
        { u with queue := rest, macFrame := some frame, macBusyNs := u.macBusyNs + frame.length * 80 + 20 * 80 } := by
      rw [PathUnit.departed, queue]
      rfl
    have sent_ : s.sentFrom π e = sent { v with cpCounters := v.cpCounters.set π { k with sent := k.sent + 1 } } := by
      rw [State.sentFrom, frame_, unit_]
      rfl
    have departure := exec_frameDeparture queue up free
    refine ⟨fun plain => ?_, fun probe open_ => ⟨(v.probing.outstanding.get π).length + 1 - list.length, departedList_length _ _ _, ?_⟩⟩
    · rw [departure, ← sent_]
      refine congrArg Host.Outcome.next ?_
      by_cases probe : e.kind = .probe
      · have closed : v.state = .closed := plain.resolve_left (not_not.mpr probe)
        rw [depart_of_probe probe, State.probeDeparted, sentFrom_circuit]
        exact if_neg (by rw [isOpen_iff]; exact not_not.mpr closed)
      · exact depart_of_ne_probe probe
    · rw [departure, depart_of_probe probe, State.probeDeparted, sentFrom_circuit]
      refine congrArg Host.Outcome.next ((if_pos ((isOpen_iff _).mpr open_)).trans ?_)
      rw [sent_]
      refine (State.setCircuit_setCircuit _ _ _ _).trans ?_
      simp only [Circuit.bumpCp, PerPath.get_set_self, PerPath.set_set]
      rfl

/-! ### Health and the transmit path (R66, R68) -/

/-- The active path of a circuit moves: SINGLE mode, not CLOSED, the other path UP and in use better than this one (R68). -/
def State.TxMoves (s : State) (c : CircuitId) : Prop :=
  let v := s.circuit c
  let a := v.health.active
  v.pathSet.mode = .single ∧ v.state ≠ .closed ∧ (s.pathUnit a.other).linkUp = true
    ∧ ((s.pathUnit a).linkUp = false ∨ (v.health.degraded.get a = true ∧ v.health.degraded.get a.other = false))

/-- The circuit after such a move, and its event. -/
def Circuit.txMoved (v : Circuit) : Circuit := { v with health := { v.health with active := v.health.active.other } }

def Circuit.txMove (v : Circuit) (c : CircuitId) : Event :=
  ⟨.circuit c, .txPathChange, BitVec.ofNat 16 (pathCode v.health.active.other)⟩

theorem mustMove_iff (s : State) (c : CircuitId) :
    s.mustMove c = true ↔
      (s.pathUnit (s.circuit c).health.active.other).linkUp = true
        ∧ ((s.pathUnit (s.circuit c).health.active).linkUp = false
          ∨ ((s.circuit c).health.degraded.get (s.circuit c).health.active = true
            ∧ (s.circuit c).health.degraded.get (s.circuit c).health.active.other = false)) := by
  simp only [State.mustMove, State.fit, Bool.or_eq_true, Bool.and_eq_true, Bool.not_eq_true']
  tauto

theorem judgeTx_of_moves (moves : s.TxMoves c) :
    s.judgeTx c = (s.setCircuit c (s.circuit c).txMoved).posted [(s.circuit c).txMove c] := by
  obtain ⟨single, open_, better⟩ := moves
  exact judgeTx_moving rfl single open_ ((mustMove_iff s c).mpr better)

theorem judgeTx_of_stays (stays : ¬s.TxMoves c) : s.judgeTx c = s :=
  judgeTx_staying fun single open_ => Bool.eq_false_iff.mpr fun must => stays ⟨single, open_, (mustMove_iff s c).mp must⟩

theorem judgeStatus_iff (set : PathSettings) (count : Nat) (was : Bool) :
    (was = false → (judgeStatus set count was = true ↔ count < set.low))
      ∧ (was = true → (judgeStatus set count was = false ↔ set.high ≤ count)) := by
  cases was <;> simp [judgeStatus]

/-- Settles O43: the judgement by whether the path moves, and the health step by whether the status changes. -/
theorem healthAndTransmitPath : Obligations.HealthAndTransmitPath := by
  refine ⟨rfl, fun c s => ?_⟩
  intro v a moves
  refine ⟨fun is => judgeTx_of_moves is, fun is => judgeTx_of_stays is, fun π good => ?_⟩
  intro old count was
  refine ⟨judgeStatus v.pathSet count was, ?_⟩
  intro health
  obtain ⟨usable, degraded⟩ := judgeStatus_iff v.pathSet count was
  exact ⟨usable, degraded, fun same => if_pos same.symm, fun differs => if_neg (Ne.symm differs)⟩

/-! ### Link events (R58, R68) -/

theorem txMoves_congr {t : State} (circuit : t.circuit c = s.circuit c) (paths : ∀ π, t.pathUnit π = s.pathUnit π) :
    t.TxMoves c ↔ s.TxMoves c := by
  unfold State.TxMoves
  rw [circuit]
  simp only [paths]

/-- Every circuit of a list judged in turn: who moves, with one event each in the order of the list, and nothing else. -/
theorem foldl_judgeTx (circuits : List CircuitId) (nodup : circuits.Nodup) (s : State) :
    ∃ (t : State) (moved : List CircuitId), circuits.foldl State.judgeTx s = t ∧ moved.Nodup
      ∧ (∀ c, c ∈ moved ↔ c ∈ circuits ∧ s.TxMoves c)
      ∧ (∀ c, (c ∈ moved → t.circuit c = (s.circuit c).txMoved) ∧ (c ∉ moved → t.circuit c = s.circuit c))
      ∧ t = { s with circuits := t.circuits, attn := s.attnAfter (moved.map fun c => (s.circuit c).txMove c) } := by
  induction circuits generalizing s with
  | nil => exact ⟨s, [], rfl, .nil, fun c => by simp, fun c => ⟨nofun, fun _ => rfl⟩, rfl⟩
  | cons c rest ih =>
    obtain ⟨fresh, nodup⟩ := List.nodup_cons.mp nodup
    by_cases moves : s.TxMoves c
    · have step := judgeTx_of_moves moves
      obtain ⟨t, moved, done, once, who, circuit, same⟩ := ih nodup (s.judgeTx c)
      have kept : ∀ d, d ≠ c → (s.judgeTx c).circuit d = s.circuit d := by
        intro d other
        rw [step, posted_circuit, State.circuit_setCircuit_ne _ _ other]
      have paths : ∀ π, (s.judgeTx c).pathUnit π = s.pathUnit π := by
        intro π
        rw [step]
        rfl
      have notHere : c ∉ moved := fun member => fresh ((who c).mp member).1
      have apart : ∀ d, d ∈ rest → d ≠ c := fun d member same => fresh (same ▸ member)
      have sameMoves : ∀ d, d ∈ rest → ((s.judgeTx c).TxMoves d ↔ s.TxMoves d) :=
        fun d member => txMoves_congr (kept d (apart d member)) paths
      have events : moved.map (fun d => ((s.judgeTx c).circuit d).txMove d) = moved.map fun d => (s.circuit d).txMove d :=
        List.map_congr_left fun d member => by rw [kept d (apart d ((who d).mp member).1)]
      refine ⟨t, c :: moved, done, List.nodup_cons.mpr ⟨notHere, once⟩, fun d => ?_, fun d => ⟨fun member => ?_, fun out => ?_⟩, ?_⟩
      · rw [List.mem_cons, List.mem_cons, who d]
        refine ⟨?_, ?_⟩
        · rintro (rfl | ⟨member, is⟩)
          · exact ⟨.inl rfl, moves⟩
          · exact ⟨.inr member, (sameMoves d member).mp is⟩
        · rintro ⟨rfl | member, is⟩
          · exact .inl rfl
          · exact .inr ⟨member, (sameMoves d member).mpr is⟩
      · obtain rfl | member := List.mem_cons.mp member
        · rw [(circuit d).2 notHere, step, posted_circuit, State.circuit_setCircuit_self]
        · rw [(circuit d).1 member, kept d (apart d ((who d).mp member).1)]
      · rw [List.mem_cons, not_or] at out
        rw [(circuit d).2 out.2, kept d out.1]
      · rw [same, events, step]
        exact congrArg (fun attn => ({ s with circuits := t.circuits, attn := attn } : State))
          (s.attnAfter_append [(s.circuit c).txMove c] _)
    · obtain ⟨t, moved, done, once, who, circuit, same⟩ := ih nodup s
      refine ⟨t, moved, ?_, once, fun d => ?_, circuit, same⟩
      · rw [List.foldl_cons, judgeTx_of_stays moves, done]
      · rw [who d, List.mem_cons]
        refine ⟨fun ⟨member, is⟩ => ⟨.inr member, is⟩, ?_⟩
        rintro ⟨rfl | member, is⟩
        · exact absurd is moves
        · exact ⟨member, is⟩

theorem txMove_injective (v : CircuitId → Circuit) : Function.Injective fun c => (v c).txMove c := by
  intro c d same
  injection same with source
  exact Source.circuit.inj source

/-- Settles O44: no change, or the link's new state, its event, and the judgement of every circuit in turn. -/
theorem linkEventTaken : Obligations.LinkEventTaken := by
  intro π up s u
  refine ⟨fun same => congrArg Host.Outcome.next (if_pos same), fun differs => ?_⟩
  let linked : State := (s.setPath π (u.linkChange up)).posted [⟨.path π, .pathHealth, if up then 0x0001 else 0x0000⟩]
  have circuits : ∀ c, linked.circuit c = s.circuit c := fun _ => rfl
  obtain ⟨t, moved, done, once, who, circuit, same⟩ := foldl_judgeTx allCircuits (List.nodup_finRange 16) linked
  have taken : exec (.linkEvent π up) s = .next t := congrArg Host.Outcome.next ((if_neg differs).trans done)
  have paths : ∀ ρ, t.pathUnit ρ = linked.pathUnit ρ := by
    intro ρ
    rw [same]
    rfl
  have here : linked.pathUnit π = u.linkChange up := State.pathUnit_setPath_self _ _ _
  have every : ∀ c : CircuitId, c ∈ allCircuits := List.mem_finRange
  refine ⟨t, moved.map fun c => (s.circuit c).txMove c, ?_⟩
  intro moves move
  have moves_ : ∀ c, c ∈ moved ↔ moves c := by
    intro c
    simp only [moves, paths]
    exact (who c).trans (and_iff_right (every c))
  refine ⟨taken, fun on => ?_, fun off => ?_, ?_, fun c => ⟨fun is => ?_, fun is => ?_⟩, once.map (txMove_injective s.circuit), fun e => ?_, ?_, ?_⟩
  · rw [paths, here, on]
    rfl
  · rw [paths, here, off]
    rfl
  · rw [paths]
    exact State.pathUnit_setPath_ne _ _ π.other_ne
  · exact (circuit c).1 ((moves_ c).mpr is)
  · exact (circuit c).2 (mt (moves_ c).mp is)
  · rw [List.mem_map]
    refine exists_congr fun c => ?_
    rw [moves_ c]
    exact and_congr_right fun _ => eq_comm
  · rw [same]
    exact (s.attnAfter_append [_] _)
  · rw [same]
    rfl

/-! ### The two path commands (R61, R69, R70) -/

/-- Entries discarded as transmit drops: each circuit's counter rises by the number of its own. -/
theorem foldl_txDrop (entries : List QueueEntry) (s : State) (π : Path) :
    (∀ c : CircuitId, (entries.foldl (fun t e => t.txDrop π e.circuit) s).circuit c =
        { s.circuit c with
          cpCounters := (s.circuit c).cpCounters.set π { (s.circuit c).cpCounters.get π with
            txDrops := ((s.circuit c).cpCounters.get π).txDrops + BitVec.ofNat 32 (entries.countP fun e => e.circuit = c) } })
      ∧ entries.foldl (fun t e => t.txDrop π e.circuit) s =
          { s with circuits := (entries.foldl (fun t e => t.txDrop π e.circuit) s).circuits } := by
  induction entries generalizing s with
  | nil =>
    refine ⟨fun c => ?_, rfl⟩
    rw [List.countP_nil, BitVec.add_zero]
    exact (congrArg (fun k => ({ s.circuit c with cpCounters := k } : Circuit)) (PerPath.set_get_self _ _)).symm
  | cons e rest ih =>
    obtain ⟨circuit, same⟩ := ih (s.txDrop π e.circuit)
    refine ⟨fun c => ?_, same⟩
    rw [List.foldl_cons, circuit c, txDrop_eq]
    by_cases own : e.circuit = c
    · subst own
      rw [State.circuit_setCircuit_self, List.countP_cons_of_pos (by simp)]
      simp only [PerPath.get_set_self, PerPath.set_set, BitVec.add_assoc]
      rw [BitVec.ofNat_add, BitVec.add_comm (BitVec.ofNat 32 _)]
      rfl
    · rw [State.circuit_setCircuit_ne _ _ (Ne.symm own), List.countP_cons_of_neg (by simpa using own)]

/-- Settles O45: Configure Path by whether it turns the path off, Set Paths by whether it enters SINGLE mode. -/
theorem pathCommandsServed : Obligations.PathCommandsServed := by
  intro p s
  refine ⟨fun π source typeCode valid frame => ?_, fun c set range frame => ?_⟩
  · have served : ∀ {t : State}, s.applyConfigurePath π source typeCode = t → exec (.configurePath p) s = .next (t.answers p [0x00, 0x00]) := by
      rintro _ rfl
      refine exec_of_rule (rule := fun _ => ruleConfigurePath) (fun _ _ => rfl) frame ?_
      rw [ruleConfigurePath, (parseConfigurePath_reads.1 _ (π, source, typeCode)).mpr ⟨valid, rfl⟩]
      rfl
    intro u
    refine ⟨fun stays => served ?_, fun on off => ?_⟩
    · have kept : ¬((s.pathUnit π).typeCode ≠ 0 ∧ typeCode = 0) := fun ⟨on, off⟩ => stays.elim on fun differs => differs off
      rw [State.applyConfigurePath, if_neg kept]
    · obtain ⟨circuit, same⟩ := foldl_txDrop u.queue (s.setPath π { u with queue := [] }) π
      have applied : s.applyConfigurePath π source typeCode =
          (s.flushAsTxDrops π).setPath π { (s.flushAsTxDrops π).pathUnit π with source := source, typeCode := typeCode } := by
        rw [State.applyConfigurePath, if_pos ⟨on, off⟩]
      have flushed : s.flushAsTxDrops π = _ := same
      refine ⟨_, served applied, ?_, ?_, fun c => ?_, ?_⟩
      · have unit : (s.flushAsTxDrops π).pathUnit π = { u with queue := [] } := by
          rw [flushed]
          exact State.pathUnit_setPath_self _ _ _
        rw [State.pathUnit_setPath_self, off, unit]
      · rw [State.pathUnit_setPath_ne _ _ π.other_ne, flushed]
        exact State.pathUnit_setPath_ne _ _ π.other_ne
      · exact circuit c
      · rw [flushed]
        rfl
  · have served : exec (.setPaths p) s = .next ((s.applySetPaths c set).answers p [0x00, 0x00]) := by
      refine exec_of_rule (rule := fun _ => ruleSetPaths) (fun _ _ => rfl) frame ?_
      rw [ruleSetPaths, (parseSetPaths_reads.1 _ (c, set)).mpr ⟨range, rfl⟩]
      rfl
    intro v enters
    have enters_ : (v.isOpen && decide (v.pathSet.mode = .dual) && decide (set.mode = .single)) = true ↔ enters := by
      simp [enters, isOpen_iff, and_assoc]
    refine ⟨fun is => ?_, fun is => ?_⟩
    · exact served.trans (congrArg (fun t => Host.Outcome.next (State.answers t p [0x00, 0x00])) (if_neg (mt enters_.mp is)))
    · exact served.trans (congrArg (fun t => Host.Outcome.next (State.answers t p [0x00, 0x00])) (if_pos (enters_.mpr is)))

end Sys2Proof.Machine
end

section
/-! A frame received: the filter of the MAC and the classification (sections 3.2, 3.3 and 4.4). -/

namespace Sys2Proof.Machine

variable {c : CircuitId} {π : Path} {s : State} {octets : List Octet}

/-! ### The filter of the MAC (R48) -/

theorem frameInError_iff (octets : List Octet) :
    frameInError octets = true ↔
      octets.length < 64 ∨ 1518 < octets.length ∨ fcs (octets.take (octets.length - 4)) ≠ octets.drop (octets.length - 4) := by
  rw [frameInError, Bool.or_eq_true, Bool.not_eq_true', Bool.eq_false_iff, Ne, within_iff, bne_iff_ne, not_and_or, Nat.not_le, Nat.not_le,
    or_assoc]

theorem word_eq_iff {os : List Octet} (length : os.length = 2) (w : BitVec 16) :
    BitVec.ofNat 16 (fromBe os) = w ↔ be 2 w.toNat = os := by
  refine ⟨?_, ?_⟩
  · rintro rfl
    exact be_word length
  · rintro rfl
    exact word_be w

theorem macOf_eq_iff {os : List Octet} (length : os.length = 6) (a : MacAddr) : macOf os = a ↔ be 6 a.toNat = os := by
  refine ⟨?_, ?_⟩
  · rintro rfl
    exact be_macOf length
  · rintro rfl
    exact macOf_be a

theorem passes_iff (u : PathUnit) (long : 64 ≤ octets.length) :
    u.passes octets = true ↔
      u.typeCode ≠ 0 ∧ be 2 u.typeCode.toNat = (octets.drop 12).take 2
        ∧ (be 6 u.source.toNat = octets.take 6 ∨ ∃ o : Octet, octets[0]? = some o ∧ o.getLsbD 0 = true) := by
  have group : (octets.getD 0 0).getLsbD 0 = true ↔ ∃ o : Octet, octets[0]? = some o ∧ o.getLsbD 0 = true := by
    rw [List.getD_eq_getElem?_getD, List.getElem?_eq_getElem (by omega)]
    simp
  have type_ := word_eq_iff (os := (octets.drop 12).take 2) (by simp; omega) u.typeCode
  have source := macOf_eq_iff (os := octets.take 6) (by simp; omega) u.source
  unfold PathUnit.passes
  simp only [Bool.and_eq_true, Bool.or_eq_true, decide_eq_true_eq, type_, source, group, and_assoc]

/-! ### The circuit of a tag (R63) -/

theorem circuitOfTag_eq_none {tag : Nat} (unknown : ∀ c : CircuitId, (s.circuit c).state ≠ .closed → (s.circuit c).layoutD.remoteTag ≠ tag) :
    s.circuitOfTag tag = none := by
  rw [State.circuitOfTag, List.find?_eq_none]
  intro c _
  rw [Bool.and_eq_true, isOpen_iff, decide_eq_true_eq]
  exact fun ⟨open_, same⟩ => unknown c open_ same

theorem circuitOfTag_eq_some {tag : Nat} (open_ : (s.circuit c).state ≠ .closed) (same : (s.circuit c).layoutD.remoteTag = tag)
    (only : ∀ d : CircuitId, (s.circuit d).state ≠ .closed → (s.circuit d).layoutD.remoteTag = tag → d = c) :
    s.circuitOfTag tag = some c := by
  cases found : s.circuitOfTag tag with
  | none =>
    rw [State.circuitOfTag, List.find?_eq_none] at found
    exact absurd (by rw [Bool.and_eq_true, isOpen_iff, decide_eq_true_eq]; exact ⟨open_, same⟩) (found c (List.mem_finRange c))
  | some d =>
    have is := List.find?_some found
    rw [Bool.and_eq_true, isOpen_iff, decide_eq_true_eq] at is
    rw [only d is.1 is.2]

/-! ### The body of a DATA packet (R49, R64) -/

theorem chunks_shape (n w : Nat) (l : List Octet) (enough : n * w ≤ l.length) :
    (chunks n w l).length = n ∧ (chunks n w l).flatten = l.take (n * w) ∧ ∀ f ∈ chunks n w l, f.length = w := by
  induction n generalizing l with
  | zero => simp [chunks]
  | succ n ih =>
    rw [Nat.succ_mul] at enough
    obtain ⟨count, all, each⟩ := ih (l.drop w) (by rw [List.length_drop]; omega)
    refine ⟨by rw [chunks, List.length_cons, count], ?_, fun f member => ?_⟩
    · rw [chunks, List.flatten_cons, all, Nat.succ_mul, Nat.add_comm, List.take_add]
    · rw [chunks, List.mem_cons] at member
      obtain rfl | later := member
      · rw [List.length_take]
        omega
      · exact each f later

theorem bodyCorrect_iff (l : Layout) (p : Bool) (field : List Octet) :
    bodyCorrect l p field = true ↔
      (field.drop 6).length = l.expectedBody p ∨ (l.expectedBody p < 40 ∧ field.length = 46) := by
  simp [bodyCorrect]

theorem answerProbe_eq (s : State) (c : CircuitId) (π : Path) (number : Seq) (t1 : List Octet) :
    s.answerProbe c π s.localTime number t1 =
      s.handPacket π c .echo number
        ([0x60] ++ be 2 ((s.circuit c).layoutD.localTag % 4096) ++ be 2 number.toNat ++ [0x00] ++ t1 ++ be 4 s.localTime.toNat) := by
  unfold State.answerProbe transportHeader
  rfl

/-! ### Classification (R62 to R64) -/

theorem exec_frameReceived_passed (good : frameInError octets = false) (passes : (s.pathUnit π).passes octets = true) {k : RxClass}
    (class_ : s.classify octets = k) : exec (.frameReceived π octets) s = .next (s.receiveClassified π k) := by
  refine congrArg Host.Outcome.next ((if_neg (Bool.eq_false_iff.mp good)).trans ((if_pos passes).trans ?_))
  rw [class_]

/-- The header of a received frame that is of version 1 and of a known kind. -/
def RxHeader.Known (h : RxHeader) : Prop := h.version = 1 ∧ h.kind ≠ 3

theorem classify_known (known : (rxHeader (dataField octets)).Known) {tag : Nat} (at_ : (rxHeader (dataField octets)).tag = tag)
    (found : s.circuitOfTag tag = some c) :
    let h := rxHeader (dataField octets)
    let l := (s.circuit c).layoutD
    let body := (dataField octets).drop 6
    (h.kind = 0 → h.fpp = l.fpp ∧ bodyCorrect l h.p (dataField octets) = true →
        s.classify octets =
          .data c ⟨h.number, h.l, h.r, h.p, if h.p then chunks l.fpp l.octetsPerFrame body else []⟩)
      ∧ (h.kind = 0 → ¬(h.fpp = l.fpp ∧ bodyCorrect l h.p (dataField octets) = true) → s.classify octets = .format)
      ∧ (h.kind = 1 → s.classify octets = .probe c h.number (body.take 4))
      ∧ (h.kind = 2 → s.classify octets = .echo c h.number (timestampAt body 4) (timestampAt body 8)) := by
  intro h l body
  have form : ¬(h.version ≠ 1 ∨ h.kind = 3) := fun other => other.elim (fun bad => bad known.1) known.2
  subst at_
  refine ⟨fun kind fits => ?_, fun kind misfit => ?_, fun kind => ?_, fun kind => ?_⟩ <;>
    rw [State.classify, if_neg form, found] <;> dsimp only <;> rw [show (rxHeader (dataField octets)).kind = _ from kind]
  · exact if_pos fits
  · exact if_neg misfit
  · rfl
  · rfl

/-- Settles O46: the filter, then version and kind, then the tag, and then the checks of the kind. -/
theorem frameReceivedClassified : Obligations.FrameReceivedClassified := by
  intro π octets s u bad addressed field o0 tag number body formatError
  have good_ : ¬bad → frameInError octets = false := fun good => Bool.eq_false_iff.mpr (mt (frameInError_iff octets).mp good)
  have passes_ : ¬bad → (u.passes octets = true ↔ addressed) := fun good =>
    passes_iff u (Nat.not_lt.mp fun short => good (.inl short))
  refine ⟨fun is => congrArg Host.Outcome.next (if_pos ((frameInError_iff octets).mpr is)), fun good other => ?_, fun good here form => ?_,
    fun good here version kind => ⟨fun unknown => ?_, fun c open_ same only => ?_⟩⟩
  · exact congrArg Host.Outcome.next ((if_neg (Bool.eq_false_iff.mp (good_ good))).trans (if_neg (mt (passes_ good).mp other)))
  · exact exec_frameReceived_passed (k := .format) (good_ good) ((passes_ good).mpr here) (if_pos form)
  · have known : ¬((rxHeader (dataField octets)).version ≠ 1 ∨ (rxHeader (dataField octets)).kind = 3) := by
      rintro (other | bad)
      · exact other version
      · exact kind bad
    refine exec_frameReceived_passed (k := .unknownTag) (good_ good) ((passes_ good).mpr here) ?_
    rw [State.classify, if_neg known, circuitOfTag_eq_none (tag := (rxHeader (dataField octets)).tag) unknown]
  · intro l expected fits
    have passes := (passes_ good).mpr here
    have tag_ : (rxHeader (dataField octets)).tag = tag := rfl
    obtain ⟨data, misfit, probe, echo⟩ := classify_known ⟨version, kind⟩ tag_ (circuitOfTag_eq_some open_ same only)
    have fits_ : (rxHeader (dataField octets)).fpp = l.fpp ∧ bodyCorrect l (rxHeader (dataField octets)).p (dataField octets) = true ↔ fits :=
      and_congr_right' (bodyCorrect_iff l _ _)
    refine ⟨fun zero not => ?_, fun zero fit => ?_, fun one => ?_, fun two => ?_⟩
    · exact exec_frameReceived_passed (good_ good) passes (misfit zero (mt fits_.mp not))
    · refine ⟨_, exec_frameReceived_passed (good_ good) passes (data zero (fits_.mpr fit)), fun off => ?_, fun on => ?_⟩
      · exact if_neg (Bool.eq_false_iff.mp off)
      · rw [show (rxHeader (dataField octets)).p = true from on, if_pos rfl]
        refine chunks_shape l.fpp l.octetsPerFrame body ?_
        have expected_ : expected = l.fpp * l.octetsPerFrame := if_pos on
        have length : body.length = field.length - 6 := List.length_drop
        obtain ⟨-, exact_ | ⟨small, padded⟩⟩ := fit
        · omega
        · omega
    · exact (exec_frameReceived_passed (good_ good) passes (probe one)).trans
        (congrArg Host.Outcome.next (answerProbe_eq s c π number (body.take 4)))
    · exact exec_frameReceived_passed (good_ good) passes (echo two)

end Sys2Proof.Machine
end

section
/-! A DATA arrival at the playout unit, case by case (sections 5.2 to 5.4 and 5.6). -/

namespace Sys2Proof.Machine

variable {c : CircuitId} {π : Path} {a : Arrival} {s : State} {v : Circuit}

/-! ### The circuit after a store, a duplicate and an early arrival (R79 to R81) -/

theorem arrivalSlot_eq (a : Arrival) (π : Path) (now : Time) :
    a.slot π now =
      ⟨if a.p then .filled else .fault, a.seq, if a.p then a.frames else [], a.l, a.r, ⟨decide (π = .x), decide (π = .y)⟩, now⟩ := by
  cases π <;> rfl

theorem store_eq {head : Seq} (set : v.cursor.head = some head) (π : Path) (now : Time) (a : Arrival) :
    v.store π now a =
      { v with
        cpCounters := v.cpCounters.set π { v.cpCounters.get π with accepted := (v.cpCounters.get π).accepted + 1 },
        ring := v.ring.set (a.seq.toNat % 2 ^ v.layoutD.k) (a.slot π now),
        cursor := { v.cursor with hi := raiseHi head v.cursor.hi a.seq, filledCount := v.cursor.filledCount + 1, earlyRun := 0 } } := by
  have given : v.cursor.head.getD a.seq = head := by
    rw [set]
    rfl
  rw [← given]
  rfl

theorem earlyArrival_running (run : v.state = .running) (π : Path) (n : Seq) :
    v.earlyArrival π n =
      { v with
        cpCounters := v.cpCounters.set π { v.cpCounters.get π with early := (v.cpCounters.get π).early + 1 },
        cursor := { v.cursor with earlyRun := min 8 (v.cursor.earlyRun + 1) },
        requests := { v.requests with overrun := if v.cursor.earlyRun = 7 then some n else v.requests.overrun } } := by
  have eighth : (min 8 (v.cursor.earlyRun + 1) = 8 ∧ v.cursor.earlyRun < 8) ↔ v.cursor.earlyRun = 7 := by omega
  unfold Circuit.earlyArrival
  dsimp only
  rw [if_pos run]
  simp only [eighth]
  split <;> rfl

/-! ### Which case an arrival is (R78) -/

theorem dataArrival_judged {head : Seq} (takes : (s.circuit c).state = .acquiring ∨ (s.circuit c).state = .running)
    (receives : (s.circuit c).pathSet.receiveSet.get π = true) (set : (s.circuit c).cursor.head = some head) :
    s.dataArrival c π a = s.classifiedArrival c π a head := by
  have taken : ¬((s.circuit c).state = .hold ∨ (s.circuit c).state = .closing) := by
    rintro (other | other) <;> rcases takes with is | is <;> exact nomatch is.symm.trans other
  unfold State.dataArrival
  dsimp only
  rw [if_neg taken, if_neg (by rw [receives]; decide), set]

theorem dataArrival_first (acquiring : (s.circuit c).state = .acquiring)
    (receives : (s.circuit c).pathSet.receiveSet.get π = true) (unset : (s.circuit c).cursor.head = none) :
    s.dataArrival c π a =
      (s.setCircuit c { s.circuit c with
        cursor := { (s.circuit c).cursor with head := some a.seq, frameIndex := 0, headTaken := false } }).storePacket c π a := by
  have taken : ¬((s.circuit c).state = .hold ∨ (s.circuit c).state = .closing) := by
    rintro (other | other) <;> exact nomatch acquiring.symm.trans other
  unfold State.dataArrival
  dsimp only
  rw [if_neg taken, if_neg (by rw [receives]; decide), unset]
  exact if_pos acquiring

theorem storePacket_eq {w : Circuit} (stored : (s.circuit c).store π s.localTime a = w) :
    s.storePacket c π a = (((s.setCircuit c w).healthStep c π true).judgeR c a.r).afterStore c := by
  subst stored
  rfl

theorem span_eq {u : Cursor} {h n : Seq} (head : u.head = some h) (hi : u.hi = some n) :
    u.span = (n.toNat + 65537 - h.toNat) % 65536 := by
  rw [Cursor.span, head, hi]
  bv_omega

/-- Settles O48: by the circuit's state, its receive set, its head and the class of the offset; then what a store hands on. -/
theorem dataArrivalJudged : Obligations.DataArrivalJudged := by
  intro c π a s v u k l counted stored
  refine ⟨fun idle => if_pos idle, fun hold closing deaf => ?_, fun acquiring receives unset => ?_, fun head takes receives set => ?_,
    fun r => ⟨fun differs => if_pos differs, fun same => if_neg same⟩, fun run => ?_, fun l' acquiring has => ?_,
    fun h n head hi => span_eq head hi⟩
  · have taken : ¬(v.state = .hold ∨ v.state = .closing) := fun other => other.elim hold closing
    exact (if_neg taken).trans (if_pos (by rw [show (s.circuit c).pathSet.receiveSet.get π = false from deaf]; rfl))
  · rw [dataArrival_first acquiring receives unset, storePacket_eq (w := _) rfl, State.circuit_setCircuit_self, State.setCircuit_setCircuit,
      store_eq rfl, arrivalSlot_eq]
    rfl
  · intro slot class_
    have judged := dataArrival_judged (a := a) takes receives set
    have stores : s.storePacket c π a = stored head u := by
      rw [storePacket_eq (w := _) rfl, store_eq set, arrivalSlot_eq]
      rfl
    refine ⟨fun inside empty => ?_, fun inside full => ?_, fun early acquiring => ?_, fun early run => ?_, fun late => ?_⟩
    · rw [judged, State.classifiedArrival, show classifyOffset _ _ _ = _ from inside]
      exact (if_pos empty).trans stores
    · intro first
      refine ⟨v.duplicate π s.localTime a.seq, ?_, ?_⟩
      · rw [judged, State.classifiedArrival, show classifyOffset _ _ _ = _ from inside]
        exact if_neg full
      · unfold Circuit.duplicate
        dsimp only
        cases delivered : (v.slotAt a.seq).deliveredBy.get π with
        | true => exact ⟨rfl, fun is => absurd (delivered.symm.trans is) (by decide), fun _ => ⟨rfl, rfl⟩⟩
        | false => exact ⟨rfl, fun _ => ⟨rfl, rfl⟩, fun is => absurd delivered is⟩
    · have still : ¬v.state = .running := fun run => absurd (acquiring.symm.trans run) (by decide)
      have counts : v.earlyArrival π a.seq = counted { k with early := k.early + 1 } := if_neg still
      rw [judged, State.classifiedArrival, show classifyOffset _ _ _ = _ from early]
      exact congrArg (s.setCircuit c) counts
    · rw [judged, State.classifiedArrival, show classifyOffset _ _ _ = _ from early]
      exact congrArg (s.setCircuit c) (earlyArrival_running run π a.seq)
    · rw [judged, State.classifiedArrival, show classifyOffset _ _ _ = _ from late]
      rfl
  · rw [State.afterStore, show (s.circuit c).state = .running from run]
    rfl
  · have target : v.targetInUse = min v.playoutSet.targetDepth (2 ^ l'.k - 1) := by
      rw [Circuit.targetInUse, has]
      rfl
    have judged : s.afterStore c =
        if v.targetInUse ≤ u.span then s.setCircuit c { v with requests := { v.requests with acquisitionComplete := true } } else s := by
      rw [State.afterStore, show (s.circuit c).state = .acquiring from acquiring]
    rw [judged, target]
    exact ⟨fun enough => if_pos enough, fun few => if_neg (Nat.not_le.mpr few)⟩

end Sys2Proof.Machine
end

section
/-! Transmit timing (chapter 6): the loop update, and Set Timing. -/

namespace Sys2Proof.Machine

variable {c : CircuitId} {s : State}

/-! ### Arithmetic (00_scope 5.3) -/

theorem clampTo_eq (lim : Nat) (v : Int) : clampTo lim v = max (-(lim : Int)) (min lim v) := by
  unfold clampTo
  split_ifs <;> omega

/-- Rounding to nearest with ties away from zero, as two inequalities with one solution. -/
theorem roundAway_shape (a : Int) {b : Nat} (pos : 0 < b) :
    2 * (a - roundAway a b * b).natAbs ≤ b ∧ (2 * (a - roundAway a b * b).natAbs = b → a.natAbs < (roundAway a b * b).natAbs) := by
  have split : 2 * b * ((2 * a.natAbs + b) / (2 * b)) + (2 * a.natAbs + b) % (2 * b) = 2 * a.natAbs + b := Nat.div_add_mod _ _
  have below : (2 * a.natAbs + b) % (2 * b) < 2 * b := Nat.mod_lt _ (by omega)
  rw [Nat.mul_assoc] at split
  unfold roundAway
  generalize (2 * a.natAbs + b) / (2 * b) = q at *
  have product : ((q : Int) * b).natAbs = b * q := by rw [Int.natAbs_mul, Int.natAbs_natCast, Int.natAbs_natCast, Nat.mul_comm]
  have cast : (q : Int) * b = ((b * q : Nat) : Int) := by push_cast; ring
  split
  · rw [cast]
    omega
  · rw [neg_mul, cast]
    omega

/-- Division with truncation toward zero, by its size and its sign. -/
theorem tdiv_shape (a : Int) {k : Nat} (pos : 0 < k) :
    ((k : Int) * a.tdiv k).natAbs ≤ a.natAbs ∧ a.natAbs < ((k : Int) * a.tdiv k).natAbs + k ∧ 0 ≤ a.tdiv k * a := by
  have split : k * (a.natAbs / k) + a.natAbs % k = a.natAbs := Nat.div_add_mod _ _
  have below : a.natAbs % k < k := Nat.mod_lt _ pos
  have size : ((k : Int) * a.tdiv k).natAbs = k * (a.natAbs / k) := by
    rw [Int.natAbs_mul, Int.natAbs_tdiv, Int.natAbs_natCast]
    rfl
  refine ⟨by omega, by omega, ?_⟩
  obtain up | down := Int.le_total 0 a
  · exact mul_nonneg (Int.tdiv_nonneg up (Int.natCast_nonneg k)) up
  · have opposite := mul_nonneg (Int.tdiv_nonneg (Int.neg_nonneg_of_nonpos down) (Int.natCast_nonneg k)) (Int.neg_nonneg_of_nonpos down)
    rwa [Int.neg_tdiv, neg_mul_neg] at opposite

/-! ### Saturation flags (R110, R111) -/

theorem newlySet_iff (acted : Bool) (copies : PerPort Bool) : newlySet acted copies = true ↔ acted = true ∧ copies ≠ ⟨true, true⟩ := by
  obtain ⟨x, y⟩ := copies
  cases acted <;> cases x <;> cases y <;> simp [newlySet]

/-- The clamps that acted: the flags they set, and one post where a copy was clear. -/
theorem saturate_setCircuit (s : State) (c : CircuitId) (v : Circuit) (integrator output : Bool) :
    let t := v.timing
    let updated := s.setCircuit c { v with timing := { t with
      integratorSat := if integrator then ⟨true, true⟩ else t.integratorSat, outputSat := if output then ⟨true, true⟩ else t.outputSat } }
    let newly : Prop :=
      (integrator = true ∧ t.integratorSat ≠ ⟨true, true⟩) ∨ (output = true ∧ t.outputSat ≠ ⟨true, true⟩)
    (newly → (s.setCircuit c v).saturate c integrator output =
        updated.posted [⟨.circuit c, .loopSaturation, BitVec.ofNat 16 ((if integrator then 1 else 0) + (if output then 2 else 0))⟩])
      ∧ (¬newly → (s.setCircuit c v).saturate c integrator output = updated) := by
  intro t updated newly
  have stored : (s.setCircuit c v).updCircuit c (fun v => { v with timing := v.timing.setSat integrator output }) = updated := by
    rw [State.updCircuit_eq, State.circuit_setCircuit_self, State.setCircuit_setCircuit]
    rfl
  have newly_ : (newlySet integrator t.integratorSat || newlySet output t.outputSat) = true ↔ newly := by
    rw [Bool.or_eq_true, newlySet_iff, newlySet_iff]
  unfold State.saturate
  rw [stored, State.circuit_setCircuit_self]
  exact ⟨fun is => if_pos (newly_.mpr is), fun is => if_neg (mt newly_.mp is)⟩

/-! ### The loop update (R102 to R111) -/

theorem targetFrames_eq {v : Circuit} {l : Layout} (has : v.layout = some l) :
    v.targetFrames = min v.playoutSet.targetDepth (2 ^ l.k - 1) * l.fpp := by
  rw [Circuit.targetFrames, Circuit.targetInUse, has]
  rfl

/-- Settles O49: whether the sample counts, whether it completes a window, and the update by its four stages. -/
theorem loopUpdate : Obligations.LoopUpdate := by
  intro c d s v t g lim N x
  refine ⟨fun l => targetFrames_eq, fun other => if_neg other, fun run mode more => ?_, fun run mode full => ?_⟩
  · exact (if_pos ⟨run, mode⟩).trans (if_neg (Nat.not_le.mpr more))
  · let n := g.window
    let t' : Timing := { t with sum := t.sum + d, n := t.n + 1 }
    let e := loopError t'.sum v.targetFrames n
    have sampled : s.depthSample c d = (s.setCircuit c { v with timing := t' }).loopUpdate c :=
      (if_pos ⟨run, mode⟩).trans (if_pos full)
    refine ⟨e, loopProportional e g.gp, loopIncrement e g.gi, ?_⟩
    intro i out actsI actsC updated newly
    have actsI_ : loopIntegratorActs g v.targetFrames t' = actsI := by
      simp only [loopIntegratorActs, clampTo_eq]
      rfl
    have actsC_ : loopOutputActs g v.targetFrames t' = actsC := by
      simp only [loopOutputActs, clampTo_eq]
      rfl
    have timing_ : loopTiming g v.targetFrames t' =
        { t with c := out, i := i, sum := 0, n := 0, lastError := e, lastP := loopProportional e g.gp } := by
      simp only [loopTiming, clampTo_eq]
      rfl
    have updates : s.depthSample c d =
        (s.setCircuit c { v with timing :=
          { t with c := out, i := i, sum := 0, n := 0, lastError := e, lastP := loopProportional e g.gp } }).saturate c actsI actsC := by
      rw [sampled, State.loopUpdate, State.circuit_setCircuit_self, State.setCircuit_setCircuit, ← timing_, ← actsI_, ← actsC_]
      rfl
    obtain ⟨posts, quiet⟩ := saturate_setCircuit s c { v with timing :=
      { t with c := out, i := i, sum := 0, n := 0, lastError := e, lastP := loopProportional e g.gp } } actsI actsC
    have width : ((2 ^ g.m : Nat) : Int) = N := by push_cast; rfl
    have error_ : x = 16 * (((t.sum + d : Nat) : Int) - v.targetFrames * ((2 ^ g.m : Nat) : Int)) := by
      rw [width]
      push_cast
      rfl
    have rounded := roundAway_shape x (b := 2 ^ g.m) (Nat.two_pow_pos _)
    have e_ : roundAway x (2 ^ g.m) = e := by rw [error_]; rfl
    rw [e_, width, show 2 ^ g.m = N.natAbs by rw [← width]; rfl] at rounded
    exact ⟨rounded, tdiv_shape (e * g.gp) (k := 16) (by decide), tdiv_shape (e * g.gi) (k := 64) (by decide),
      fun is => updates.trans (posts is), fun is => updates.trans (quiet is)⟩

/-! ### Set Timing (R114 to R116) -/

/-- Settles O50: the timing value by its three steps, and the clamps that acted where the circuit is open. -/
theorem setTimingServed : Obligations.SetTimingServed := by
  intro p c raw s carried frame v t old new clamp i1 c1 takes c2 zeroes actsI actsC newly updated
  have served : ∀ {u : State}, s.applySetTiming c new = u → exec (.setTiming p) s = .next (u.answers p [0x00, 0x00]) := by
    rintro _ rfl
    refine exec_of_rule (rule := fun _ => ruleSetTiming) (fun _ _ => rfl) frame ?_
    rw [ruleSetTiming, parseSetTiming_setTimingParams c carried]
    rfl
  have reclamped : reclamp old.lim new.lim t = { t with i := i1, c := c1 } := by
    unfold reclamp
    simp only [clampTo_eq]
    by_cases same : old.lim = new.lim
    · rw [if_pos same, show i1 = t.i from if_pos same, show c1 = t.c from if_pos same]
    · rw [if_neg same, show i1 = clamp t.i from if_neg same, show c1 = clamp t.c from if_neg same]
  have takes_ : takesOffset v s.ref new = takes := by
    simp only [takesOffset, takes, Bool.decide_and, Bool.and_assoc]
    rfl
  have zeroes_ : (v.timingSet.m ≠ new.m ∨ v.timingSet.mode ≠ new.mode) ↔ zeroes = true := decide_eq_true_iff.symm
  have value : setTimingValue v s.ref new =
      { t with c := c2, i := i1, sum := if zeroes then 0 else t.sum, n := if zeroes then 0 else t.n } := by
    have c2_ : c2 = if takes = true then clamp s.ref.lastOffset else c1 := rfl
    unfold setTimingValue
    dsimp only
    rw [takes_, show reclamp v.timingSet.lim new.lim v.timing = _ from reclamped, clampTo_eq, c2_]
    simp only [zeroes_]
    cases zeroes <;> cases takes <;> rfl
  have actsI_ : v.state ≠ .closed → setTimingIntegratorActs v new = actsI := by
    intro open_
    rw [setTimingIntegratorActs, show reclamp v.timingSet.lim new.lim v.timing = _ from reclamped]
    exact decide_eq_decide.mpr (iff_and_self.mpr fun _ => open_)
  have actsC_ : v.state ≠ .closed → setTimingOutputActs v s.ref new = actsC := by
    intro open_
    have taken : takes = true → c2 = clamp s.ref.lastOffset := fun is => if_pos is
    have actsC_iff : actsC = true ↔ c1 ≠ t.c ∨ (takes = true ∧ c2 ≠ s.ref.lastOffset) :=
      decide_eq_true_iff.trans (and_iff_right open_)
    rw [setTimingOutputActs, show reclamp v.timingSet.lim new.lim v.timing = _ from reclamped, takes_, clampTo_eq, Bool.eq_iff_iff,
      actsC_iff, Bool.or_eq_true, Bool.and_eq_true]
    refine or_congr decide_eq_true_iff (and_congr_right fun is => ?_)
    rw [taken is]
    exact decide_eq_true_iff
  by_cases closed : v.state = .closed
  · have offI : actsI = false := decide_eq_false fun ⟨open_, _⟩ => open_ closed
    have offC : actsC = false := decide_eq_false fun ⟨open_, _⟩ => open_ closed
    have quiet : s.applySetTiming c new = updated := by
      have updated_ : updated = s.setCircuit c { v with timingSet := new, timing := setTimingValue v s.ref new } := by
        simp only [updated, offI, offC, value]
        rfl
      rw [updated_]
      exact if_neg (by rw [isOpen_iff]; exact not_not.mpr closed)
    refine ⟨fun is => ?_, fun _ => served quiet⟩
    rcases is with ⟨on, _⟩ | ⟨on, _⟩
    · exact absurd (offI.symm.trans on) (by decide)
    · exact absurd (offC.symm.trans on) (by decide)
  · have saturates : s.applySetTiming c new =
        (s.setCircuit c { v with timingSet := new, timing :=
          { t with c := c2, i := i1, sum := if zeroes then 0 else t.sum, n := if zeroes then 0 else t.n } }).saturate c actsI actsC := by
      rw [← value, ← actsI_ closed, ← actsC_ closed]
      exact if_pos ((isOpen_iff _).mpr closed)
    obtain ⟨posts, quiet⟩ := saturate_setCircuit s c { v with timingSet := new, timing :=
      { t with c := c2, i := i1, sum := if zeroes then 0 else t.sum, n := if zeroes then 0 else t.n } } actsI actsC
    exact ⟨fun is => served (saturates.trans (posts is)), fun is => served (saturates.trans (quiet is))⟩

end Sys2Proof.Machine
end

section
/-! Settings stored, probes sent, echoes and the delay alarms (sections 5.8, 7.5 and chapter 8). -/

namespace Sys2Proof.Machine

variable {c : CircuitId} {π : Path} {s : State}

/-! ### Settings (R96, R127, R131, R141) -/

theorem timerAfterSet_closed {v : Circuit} (closed : v.state = .closed) (set : ProbeSettings) (now : Time) :
    v.timerAfterSet set now = v.probing.timer :=
  if_neg (by rw [(isOpen_eq_false_iff v).mpr closed, Bool.false_and]; exact Bool.false_ne_true)

theorem timerAfterSet_open {v : Circuit} (open_ : v.state ≠ .closed) (set : ProbeSettings) (now : Time) :
    v.timerAfterSet set now =
      if v.probeSet.interval = set.interval then v.probing.timer else if set.interval = 0 then none else some now := by
  unfold Circuit.timerAfterSet
  rw [(isOpen_iff v).mpr open_, Bool.true_and]
  by_cases same : v.probeSet.interval = set.interval
  · rw [if_pos same, if_neg (by simp [same])]
  · rw [if_neg same, if_pos (bne_iff_ne.mpr same)]

/-- Settles O51: each command by its own operands; Set Probing by whether the circuit is open. -/
theorem settingsStored : Obligations.SettingsStored := by
  intro p s
  refine ⟨fun c new range frame => ?_, fun c new range frame => ?_, fun tolerance q word inTolerance inQ frame => ?_⟩
  · refine exec_of_rule (rule := fun _ => ruleSetPlayout) (fun _ _ => rfl) frame ?_
    rw [ruleSetPlayout, (parseSetPlayout_reads.1 _ (c, new)).mpr ⟨range, rfl⟩]
    rfl
  · have served : ∀ {t : State}, s.applySetProbing c new = t → exec (.setProbing p) s = .next (t.answers p [0x00, 0x00]) := by
      rintro _ rfl
      refine exec_of_rule (rule := fun _ => ruleSetProbing) (fun _ _ => rfl) frame ?_
      rw [ruleSetProbing, (parseSetProbing_reads.1 _ (c, new)).mpr ⟨range, rfl⟩]
      rfl
    intro v timer
    refine ⟨fun closed => served ?_, fun open_ => served ?_⟩
    · refine (if_neg (by rw [isOpen_iff]; exact not_not.mpr closed)).trans ?_
      rw [timerAfterSet_closed closed]
    · refine (if_pos ((isOpen_iff _).mpr open_)).trans ?_
      rw [timerAfterSet_open open_]
  · refine exec_of_rule (rule := fun _ => ruleConfigureReference) (fun _ _ => rfl) frame ?_
    rw [ruleConfigureReference, (parseConfigureReference_reads.1 _ (tolerance, q, word)).mpr ⟨⟨inTolerance, inQ⟩, rfl⟩]
    rfl

/-! ### Probe instants (R131 to R133) -/

theorem handProbe_eq (s : State) (c : CircuitId) (π : Path) :
    s.handProbe c π =
      let b := (s.circuit c).probing
      (s.setCircuit c { s.circuit c with probing :=
        { b with number := b.number + 1, postponed := b.postponed.set π 0 } }).handPacket π c .probe b.number
          ([0x50] ++ be 2 ((s.circuit c).layoutD.localTag % 4096) ++ be 2 b.number.toNat ++ [0x00]) := rfl

/-- Settles O53: the instant by the free choice of the order, and each path by its link, its queue and its postponed count. -/
theorem probeTimerExpires : Obligations.ProbeTimerExpires := by
  refine ⟨fun c start s => ?_, fun c π s => ?_⟩
  · intro v runs open_ on passed restarted
    have due : s.probeTimerDue c = true := (probeTimerDue_iff s c).mpr ⟨open_, on, start, runs, passed⟩
    refine ⟨(probeOrder (Config.xTakesLowerProbe s.freeCount)).foldl (probeDue c) restarted, congrArg Host.Outcome.next (if_pos due), ?_⟩
    cases Config.xTakesLowerProbe s.freeCount
    · exact .inr rfl
    · exact .inl rfl
  · intro v b u
    refine ⟨fun down => ?_, fun up deep few => ?_, fun up goes => ?_⟩
    · exact if_pos (show (!(s.pathUnit π).linkUp) = true by rw [show (s.pathUnit π).linkUp = false from down]; rfl)
    · have linked : ¬(!(s.pathUnit π).linkUp) = true := by rw [show (s.pathUnit π).linkUp = true from up]; decide
      exact (if_neg linked).trans (if_pos ⟨deep, few⟩)
    · have linked : ¬(!(s.pathUnit π).linkUp) = true := by rw [show (s.pathUnit π).linkUp = true from up]; decide
      have sends : ¬(32 ≤ (s.pathUnit π).queue.length ∧ (s.circuit c).probing.postponed.get π < 8) := fun ⟨deep, few⟩ =>
        goes.elim (fun room => absurd deep (Nat.not_le.mpr room)) fun many => absurd few (Nat.not_lt.mpr many)
      exact (if_neg linked).trans ((if_neg sends).trans (handProbe_eq s c π))

/-! ### Echoes and the delay record (R136 to R138) -/

theorem split_at_number {list older newer : List Outstanding} {number : Seq} {t1 : Time} (is : list = older ++ ⟨number, t1⟩ :: newer)
    (fresh : ∀ e ∈ older, e.number ≠ number) :
    (list.find? fun e => e.number == number) = some ⟨number, t1⟩ ∧ olderThan list number = older ∧ newerThan list number = newer := by
  subst is
  have pass : ∀ e ∈ older, (e.number != number) = true := fun e member => bne_iff_ne.mpr (fresh e member)
  refine ⟨?_, ?_, ?_⟩
  · rw [List.find?_append, List.find?_eq_none.mpr fun e member => by simpa using fresh e member]
    simp
  · rw [olderThan, List.takeWhile_append_of_pos pass]
    simp
  · rw [newerThan, List.dropWhile_append_of_pos pass]
    simp

theorem plausible_iff (trip : Int) : plausible trip = true ↔ 0 ≤ trip ∧ trip ≤ 10000000 := by
  simp [plausible]

theorem smoothedAfter_some (old sample : Nat) :
    smoothedAfter (some old) sample = if old ≤ sample then old + (sample - old) / 8 else old - (old - sample) / 8 := by
  unfold smoothedAfter
  dsimp only
  split
  · next up =>
    rw [Int.tdiv_eq_ediv_of_nonneg (by omega)]
    omega
  · next down =>
    rw [show (sample : Int) - old = -((old : Int) - sample) by omega, Int.neg_tdiv, Int.tdiv_eq_ediv_of_nonneg (by omega)]
    omega

theorem minimumAfter_eq (old : Option Nat) (sample : Nat) : minimumAfter old sample = some (min (old.getD sample) sample) := by
  cases old with
  | none => simp [minimumAfter]
  | some m =>
    simp only [minimumAfter, Option.getD_some]
    split <;> simp <;> omega

/-! ### The delay alarms (R139, R140) -/

theorem judgeAlarm_iff (limit value : Nat) (alarm : Bool) :
    (alarm = false → (judgeAlarm limit value alarm = true ↔ limit < value))
      ∧ (alarm = true → (judgeAlarm limit value alarm = false ↔ value ≤ limit * 7 / 8)) := by
  cases alarm <;> simp [judgeAlarm]

theorem judgeDelay_of_smoothed {value : Nat} (smoothed : ((s.circuit c).probing.record.get π).smoothed = some value) :
    let r := (s.circuit c).probing.record.get π
    let alarm := judgeAlarm (s.circuit c).probeSet.delayLimit value r.alarm
    let record := (s.circuit c).probing.record.set π { r with alarm := alarm }
    s.judgeDelay c π =
      if alarm = r.alarm then s
      else (s.setCircuit c { s.circuit c with probing := { (s.circuit c).probing with record := record } }).posted
        [⟨.circuit c, .delayLimit, hiLo (pathCode π) ((if record.x.alarm then 1 else 0) + (if record.y.alarm then 2 else 0))⟩] := by
  unfold State.judgeDelay
  dsimp only
  rw [smoothed]
  rfl

theorem judgeAsymmetry_of_both {x y : Nat} (atX : (s.circuit c).probing.record.x.smoothed = some x)
    (atY : (s.circuit c).probing.record.y.smoothed = some y) :
    let alarm := judgeAlarm (s.circuit c).probeSet.asymmetryLimit ((x : Int) - y).natAbs (s.circuit c).probing.asymmetryAlarm
    s.judgeAsymmetry c =
      if alarm = (s.circuit c).probing.asymmetryAlarm then s
      else (s.setCircuit c { s.circuit c with probing := { (s.circuit c).probing with asymmetryAlarm := alarm } }).posted
        [⟨.circuit c, .asymmetry, BitVec.ofNat 16 ((if alarm then 1 else 0) + (if x < y then 0x100 else 0))⟩] := by
  have greater : (s.circuit c).probing.yGreater = decide (x < y) := by rw [Probing.yGreater, atX, atY]; rfl
  have word : (if (s.circuit c).probing.yGreater = true then 0x100 else 0) = if x < y then 0x100 else 0 := by
    rw [greater]
    simp only [decide_eq_true_eq]
  unfold State.judgeAsymmetry
  dsimp only
  rw [asymmetry_eq_some atX atY, word]
  rfl

/-- The delay record after a sample, its smoothed value written without signs. -/
theorem take_eq (r : DelayRecord) (sample : Nat) :
    r.take sample =
      ⟨sample, ⟨some (min (r.minimum.cp0.getD sample) sample), some (min (r.minimum.cp1.getD sample) sample)⟩,
        some (match r.smoothed with
          | none => sample
          | some old => if old ≤ sample then old + (sample - old) / 8 else old - (old - sample) / 8),
        min 65535 (r.sampleCount + 1), r.alarm⟩ := by
  rw [DelayRecord.take, minimumAfter_eq, minimumAfter_eq]
  cases r.smoothed with
  | none => rfl
  | some old => rw [smoothedAfter_some]

/-- An ECHO that matches an entry: older entries are lost, and the round trip decides. -/
theorem echoArrival_matched {older newer : List Outstanding} {number : Seq} {t1 : Time} (t2 t3 t4 : Time)
    (is : (s.circuit c).probing.outstanding.get π = older ++ ⟨number, t1⟩ :: newer) (fresh : ∀ e ∈ older, e.number ≠ number) :
    let v := s.circuit c
    let w := v.bumpCp π fun k => { k with probesLost := k.probesLost + BitVec.ofNat 32 older.length }
    let t := s.setCircuit c { w with probing := { v.probing with outstanding := v.probing.outstanding.set π newer } }
    s.echoArrival c π t4 number t2 t3 =
      if plausible (roundTrip t1 t2 t3 t4) then t.delaySample c π (roundTrip t1 t2 t3 t4).toNat
      else t.updCircuit c fun v => v.bumpCp π fun k => { k with echoesImplausible := k.echoesImplausible + 1 } := by
  obtain ⟨found, before, after⟩ := split_at_number is fresh
  unfold State.echoArrival
  dsimp only
  rw [found, before, after]

/-- Settles O54: an echo by the entry it matches, a sample by the record it gives, and each alarm by the judgement of its value. -/
theorem echoAndDelay : Obligations.EchoAndDelay := by
  intro c π s v b k r smallest
  refine ⟨fun number t2 t3 t4 => ⟨fun unknown => ?_, fun older newer t1 is fresh => ?_⟩, fun sample => ?_, fun none_ => ?_,
    fun value smoothed => ?_, fun none_ => ?_, fun x y atX atY => ?_⟩
  · unfold State.echoArrival
    dsimp only
    rw [List.find?_eq_none.mpr fun e member => by simpa using unknown e member]
    rfl
  · intro trip matched
    have arrives := echoArrival_matched t2 t3 t4 is fresh
    refine ⟨fun sound => ?_, fun unsound => ?_⟩
    · exact arrives.trans (if_pos ((plausible_iff trip).mpr sound))
    · refine arrives.trans ((if_neg fun sound => ?_).trans ?_)
      · obtain ⟨notNegative, notLong⟩ := (plausible_iff trip).mp sound
        omega
      · rw [State.updCircuit_eq, State.circuit_setCircuit_self, State.setCircuit_setCircuit]
        simp only [Circuit.bumpCp, PerPath.get_set_self, PerPath.set_set]
        rfl
  · intro smoothed
    exact congrArg (fun record => ((s.setCircuit c { v with probing := { b with record := b.record.set π record } }).judgeDelay c π).judgeAsymmetry c)
      (take_eq r sample)
  · unfold State.judgeDelay
    dsimp only
    rw [show ((s.circuit c).probing.record.get π).smoothed = none from none_]
  · have judged := judgeDelay_of_smoothed (s := s) (c := c) (π := π) smoothed
    obtain ⟨sets, clears⟩ := judgeAlarm_iff v.probeSet.delayLimit value r.alarm
    exact ⟨judgeAlarm v.probeSet.delayLimit value r.alarm, sets, clears, fun same => judged.trans (if_pos same),
      fun changed => judged.trans (if_neg changed)⟩
  · unfold State.judgeAsymmetry
    dsimp only
    rw [asymmetry_eq_none none_]
  · have judged := judgeAsymmetry_of_both (s := s) (c := c) atX atY
    obtain ⟨sets, clears⟩ := judgeAlarm_iff v.probeSet.asymmetryLimit ((x : Int) - y).natAbs b.asymmetryAlarm
    exact ⟨judgeAlarm v.probeSet.asymmetryLimit ((x : Int) - y).natAbs b.asymmetryAlarm, sets, clears,
      fun same => judged.trans (if_pos same), fun changed => judged.trans (if_neg changed)⟩

end Sys2Proof.Machine
end

section
/-! The station reference monitor (chapter 7). -/

namespace Sys2Proof.Machine

variable {c : CircuitId} {s : State}

/-! ### An offset handed to the circuits (R113, R114) -/

/-- A step on each circuit of a list that reads and writes that circuit alone and may post one event: what the whole list gives. -/
theorem foldl_eachCircuit {f : State → CircuitId → State} {g : Circuit → Circuit} {posts : Circuit → Bool} {event : CircuitId → Event}
    (step : ∀ s c, f s c = (s.setCircuit c (g (s.circuit c))).posted (if posts (s.circuit c) then [event c] else []))
    (circuits : List CircuitId) (nodup : circuits.Nodup) (s : State) :
    ∃ t : State, circuits.foldl f s = t
      ∧ (∀ c, (c ∈ circuits → t.circuit c = g (s.circuit c)) ∧ (c ∉ circuits → t.circuit c = s.circuit c))
      ∧ t = { s with circuits := t.circuits, attn := s.attnAfter ((circuits.filter fun c => posts (s.circuit c)).map event) } := by
  induction circuits generalizing s with
  | nil => exact ⟨s, rfl, fun c => ⟨nofun, fun _ => rfl⟩, rfl⟩
  | cons c rest ih =>
    obtain ⟨fresh, nodup⟩ := List.nodup_cons.mp nodup
    obtain ⟨t, done, circuit, same⟩ := ih nodup (f s c)
    have here : (f s c).circuit c = g (s.circuit c) := by rw [step, posted_circuit, State.circuit_setCircuit_self]
    have kept : ∀ d, d ≠ c → (f s c).circuit d = s.circuit d := by
      intro d other
      rw [step, posted_circuit, State.circuit_setCircuit_ne _ _ other]
    have apart : ∀ d, d ∈ rest → d ≠ c := fun d member same => fresh (same ▸ member)
    have events : (rest.filter fun d => posts ((f s c).circuit d)) = rest.filter fun d => posts (s.circuit d) :=
      List.filter_congr fun d member => by rw [kept d (apart d member)]
    refine ⟨t, done, fun d => ⟨fun member => ?_, fun out => ?_⟩, ?_⟩
    · obtain rfl | member := List.mem_cons.mp member
      · rw [(circuit d).2 fresh, here]
      · rw [(circuit d).1 member, kept d (apart d member)]
    · rw [List.mem_cons, not_or] at out
      rw [(circuit d).2 out.2, kept d out.1]
    · have attn : (f s c).attnAfter ((rest.filter fun d => posts (s.circuit d)).map event) =
          s.attnAfter (((c :: rest).filter fun d => posts (s.circuit d)).map event) := by
        rw [step]
        refine (s.attnAfter_append _ _).trans (congrArg s.attnAfter ?_)
        rw [List.filter_cons]
        split <;> rfl
      rw [same, events, attn, step]
      rfl

/-- Whether a circuit takes the offset the reference monitor hands over (R113). -/
def Circuit.TakesOffset (v : Circuit) : Prop := v.state = .running ∧ v.timingSet.mode = .station

/-- A circuit once it has taken an offset, clamped to its limit (R113, R114). -/
def Circuit.offsetTaken (v : Circuit) (offset : Int) : Circuit :=
  { v with timing := { v.timing with
    c := clampTo v.timingSet.lim offset
    outputSat := if clampTo v.timingSet.lim offset ≠ offset then ⟨true, true⟩ else v.timing.outputSat } }

/-- LOOP_SATURATION of the output clamp (R111, R114). -/
def outputSaturation (c : CircuitId) : Event := ⟨.circuit c, .loopSaturation, 0x0002⟩

theorem offsetTaken_kept {v : Circuit} {offset : Int} (within : clampTo v.timingSet.lim offset = offset) :
    v.offsetTaken offset = { v with timing := { v.timing with c := clampTo v.timingSet.lim offset } } := by
  rw [Circuit.offsetTaken, if_neg (not_not.mpr within)]

theorem offsetTaken_clamped {v : Circuit} {offset : Int} (acts : clampTo v.timingSet.lim offset ≠ offset) :
    v.offsetTaken offset =
      { v with timing := { v.timing with c := clampTo v.timingSet.lim offset, outputSat := ⟨true, true⟩ } } := by
  rw [Circuit.offsetTaken, if_pos acts]

/-- Whether the offset a circuit takes is clamped with a copy of OUTPUT_SAT clear (R111, R114). -/
def Circuit.OffsetSaturates (v : Circuit) (offset : Int) : Prop :=
  clampTo v.timingSet.lim offset ≠ offset ∧ v.timing.outputSat ≠ ⟨true, true⟩

theorem takeOffset_eq (s : State) (c : CircuitId) (offset : Int) :
    let taken := s.setCircuit c ((s.circuit c).offsetTaken offset)
    ((s.circuit c).OffsetSaturates offset → s.takeOffset c offset = taken.posted [outputSaturation c])
      ∧ (¬(s.circuit c).OffsetSaturates offset → s.takeOffset c offset = taken) := by
  intro taken
  obtain ⟨posts, quiet⟩ := saturate_setCircuit s c { s.circuit c with timing :=
    { (s.circuit c).timing with c := clampTo (s.circuit c).timingSet.lim offset } } false
      (decide (clampTo (s.circuit c).timingSet.lim offset ≠ offset))
  simp only [Bool.false_eq_true, if_false, false_and, false_or, decide_eq_true_eq] at posts quiet
  refine ⟨fun saturates => (posts saturates).trans ?_, fun not => quiet not⟩
  simp only [if_pos saturates.1, taken, offsetTaken_clamped saturates.1]
  rfl

/-- The circuit `applyOffset` leaves. -/
def Circuit.afterOffset (offset : Int) (v : Circuit) : Circuit :=
  if v.state = .running ∧ v.timingSet.mode = .station then v.offsetTaken offset else v

theorem afterOffset_of_not {v : Circuit} (not : ¬v.TakesOffset) (offset : Int) : v.afterOffset offset = v := if_neg not

theorem afterOffset_of_takes {v : Circuit} (takes : v.TakesOffset) (offset : Int) : v.afterOffset offset = v.offsetTaken offset := if_pos takes

/-- Whether `applyOffset` posts LOOP_SATURATION. -/
def Circuit.postsOffset (offset : Int) (v : Circuit) : Bool :=
  decide (v.state = .running ∧ v.timingSet.mode = .station) && newlySet (decide (clampTo v.timingSet.lim offset ≠ offset)) v.timing.outputSat

theorem postsOffset_iff (offset : Int) (v : Circuit) : v.postsOffset offset = true ↔ v.TakesOffset ∧ v.OffsetSaturates offset := by
  rw [Circuit.postsOffset, Bool.and_eq_true, decide_eq_true_eq, newlySet_iff, decide_eq_true_eq]
  rfl

theorem applyOffset_eq (offset : Int) (s : State) (c : CircuitId) :
    applyOffset offset s c =
      (s.setCircuit c ((s.circuit c).afterOffset offset)).posted (if (s.circuit c).postsOffset offset then [outputSaturation c] else []) := by
  obtain ⟨posts, quiet⟩ := takeOffset_eq s c offset
  by_cases takes : (s.circuit c).TakesOffset
  · rw [show applyOffset offset s c = s.takeOffset c offset from if_pos takes, afterOffset_of_takes takes]
    by_cases saturates : (s.circuit c).OffsetSaturates offset
    · rw [posts saturates, if_pos ((postsOffset_iff offset _).mpr ⟨takes, saturates⟩)]
    · rw [quiet saturates, if_neg fun is => saturates ((postsOffset_iff offset _).mp is).2, posted_nil]
  · rw [show applyOffset offset s c = s from if_neg takes, afterOffset_of_not takes, State.setCircuit_self,
      if_neg fun is => takes ((postsOffset_iff offset _).mp is).1, posted_nil]

/-- An offset handed to every circuit: who takes it, who posts, and nothing else. -/
theorem handOffset_shape (s : State) (offset : Int) :
    ∃ (t : State) (posting : List CircuitId), s.handOffset offset = t ∧ posting.Nodup
      ∧ (∀ c, c ∈ posting ↔ (s.circuit c).TakesOffset ∧ (s.circuit c).OffsetSaturates offset)
      ∧ (∀ c, t.circuit c = (s.circuit c).afterOffset offset)
      ∧ t = { s with circuits := t.circuits, attn := s.attnAfter (posting.map outputSaturation) } := by
  obtain ⟨t, done, circuit, same⟩ := foldl_eachCircuit (applyOffset_eq offset) allCircuits (List.nodup_finRange 16) s
  refine ⟨t, _, done, (List.nodup_finRange 16).filter _, fun c => ?_, fun c => (circuit c).1 (List.mem_finRange c), same⟩
  rw [List.mem_filter, postsOffset_iff]
  exact and_iff_right (List.mem_finRange c)

theorem outputSaturation_injective : Function.Injective outputSaturation := by
  intro c d same
  injection same with source
  exact Source.circuit.inj source

/-! ### The monitor at a completion (R122, R124, R126) -/

theorem nextState_outside (r : RefMonitor) : r.nextState false = .outOfRange := rfl

theorem nextState_of_good {r : RefMonitor} (good : r.state = .good) : r.nextState true = .good := if_pos good

theorem nextState_of_enough {r : RefMonitor} (enough : r.qInUse ≤ r.nextQual) : r.nextState true = .good := by
  by_cases good : r.state = .good
  · exact nextState_of_good good
  · exact (if_neg good).trans (if_pos enough)

theorem nextState_of_few {r : RefMonitor} (other : r.state ≠ .good) (few : r.nextQual < r.qInUse) : r.nextState true = .qualifying :=
  (if_neg other).trans (if_neg (Nat.not_le.mpr few))

theorem nextQual_of_good {r : RefMonitor} (good : r.state = .good) : r.nextQual = r.qualCount := by
  unfold RefMonitor.nextQual
  rw [good]

theorem nextQual_of_other {r : RefMonitor} (other : r.state ≠ .good) :
    r.nextQual = if r.state = .qualifying then r.qualCount + 1 else 1 := by
  unfold RefMonitor.nextQual
  cases is : r.state with
  | good => exact absurd is other
  | qualifying => rfl
  | absent => rfl
  | outOfRange => rfl

/-- REFERENCE_STATE, where the monitor's state changes (R126). -/
def refChange (left entered : RefState) : List Event :=
  if entered = left then [] else [⟨.reference, .referenceState, hiLo (refCode left) (refCode entered)⟩]

theorem postRefChange_eq (s : State) (left entered : RefState) : s.postRefChange left entered = s.posted (refChange left entered) := by
  unfold State.postRefChange refChange
  by_cases same : left = entered
  · rw [if_pos same, if_pos same.symm, posted_nil]
  · rw [if_neg same, if_neg (Ne.symm same), post_eq_posted]

/-- The completion of a window: the monitor, REFERENCE_STATE, and in GOOD the offset handed to every circuit. -/
theorem completeWindow_shape (s : State) (w : RefWindow) :
    let r := s.ref.complete w.start w.edges
    ∃ (t : State) (posting : List CircuitId), s.completeWindow w = t ∧ posting.Nodup
      ∧ (∀ c, c ∈ posting ↔
          r.state = .good ∧ (s.circuit c).TakesOffset ∧ (s.circuit c).OffsetSaturates (windowOffset w.edges))
      ∧ (∀ c, t.circuit c = if r.state = .good then (s.circuit c).afterOffset (windowOffset w.edges) else s.circuit c)
      ∧ t = { s with ref := r, circuits := t.circuits,
                     attn := s.attnAfter (refChange s.ref.state r.state ++ posting.map outputSaturation) } := by
  intro r
  have posted : (s.setRef r).postRefChange s.ref.state r.state = (s.setRef r).posted (refChange s.ref.state r.state) := postRefChange_eq ..
  by_cases good : r.state = .good
  · obtain ⟨t, posting, done, once, who, circuit, same⟩ :=
      handOffset_shape ((s.setRef r).posted (refChange s.ref.state r.state)) (windowOffset w.edges)
    have offset : r.lastOffset = windowOffset w.edges := if_pos good
    refine ⟨t, posting, ?_, once, fun c => ?_, fun c => ?_, ?_⟩
    · exact (if_pos good).trans (by rw [posted, offset, done])
    · rw [who c, and_iff_right good]
      rfl
    · rw [circuit c, if_pos good]
      rfl
    · rw [same]
      exact congrArg (fun attn => ({ s with ref := r, circuits := t.circuits, attn := attn } : State)) (s.attnAfter_append _ _)
  · refine ⟨(s.setRef r).posted (refChange s.ref.state r.state), [], (if_neg good).trans posted, .nil, fun c => ?_, fun c => ?_, ?_⟩
    · exact ⟨nofun, fun ⟨is, _⟩ => absurd is good⟩
    · rw [if_neg good]
      rfl
    · rw [List.map_nil, List.append_nil]
      rfl

/-! ### Edges (R121) -/

theorem settleWindow_none (none_ : s.ref.window = none) : s.settleWindow = s := by
  unfold State.settleWindow State.windowDue
  rw [none_]

theorem settleWindow_early {w : RefWindow} (is : s.ref.window = some w) (early : (s.localTime - w.start).toNat < 10000000) :
    s.settleWindow = s := by
  have due : s.windowDue = none := by
    unfold State.windowDue
    rw [is]
    exact if_neg (Nat.not_le.mpr early)
  unfold State.settleWindow
  rw [due]

theorem settleWindow_late {w : RefWindow} (is : s.ref.window = some w) (late : 10000000 ≤ (s.localTime - w.start).toNat) :
    s.settleWindow = s.completeWindow w := by
  have due : s.windowDue = some w := by
    unfold State.windowDue
    rw [is]
    exact if_pos late
  unfold State.settleWindow
  rw [due]

theorem edge_of_none {r : RefMonitor} (none_ : r.window = none) (now : Time) :
    r.edge now = { r with
      window := some ⟨now, 1⟩, absenceTimer := some now, toleranceInUse := r.toleranceStored, qInUse := r.qStored } := by
  unfold RefMonitor.edge
  rw [none_]
  rfl

theorem edge_of_window {r : RefMonitor} {w : RefWindow} (is : r.window = some w) (now : Time) :
    r.edge now = { r with window := some ⟨w.start, min 4294967295 (w.edges + 1)⟩, absenceTimer := some now } := by
  unfold RefMonitor.edge
  rw [is]
  rfl

theorem risingEdge_of_settled {t : State} (settled : s.settleWindow = t) :
    s.risingEdge = { t with ref := t.ref.edge s.localTime } := by
  rw [State.risingEdge, settled]
  rfl

/-! ### The reference monitor -/

theorem edge_taken {i : Instr} (edge : i = .referenceWindowStart ∨ i = .refEdge) (s : State) : exec i s = .next s.risingEdge := by
  obtain rfl | rfl := edge
  · rfl
  · rfl

theorem completion_taken {w : RefWindow} (is : s.ref.window = some w) (late : 10000000 ≤ (s.localTime - w.start).toNat) :
    exec .referenceWindowCompletion s = .next (s.completeWindow w) := congrArg Host.Outcome.next (settleWindow_late is late)

/-- Settles O52: an edge by the window it meets, a completion by the monitor's next state, and absence by the state it leaves. -/
theorem referenceMonitored : Obligations.ReferenceMonitored := by
  intro s r
  refine ⟨fun i edge => ⟨fun none_ => ?_, fun w is => ⟨fun early => ?_, fun late => ?_⟩⟩, fun w is late => ?_, fun start runs passed => ?_⟩
  · rw [edge_taken edge, risingEdge_of_settled (settleWindow_none none_), edge_of_none none_]
  · rw [edge_taken edge, risingEdge_of_settled (settleWindow_early is early), edge_of_window is]
  · obtain ⟨t, posting, done, once, who, circuit, same⟩ := completeWindow_shape s w
    have next : t.ref.window = some ⟨w.start + 10000000, 0⟩ := by
      rw [same]
      rfl
    refine ⟨t, done ▸ completion_taken is late, ?_⟩
    rw [edge_taken edge, risingEdge_of_settled ((settleWindow_late is late).trans done), edge_of_window next]
    rfl
  · intro deviation_ inside x
    obtain ⟨t, posting, done, once, who, circuit, same⟩ := completeWindow_shape s w
    let monitor := r.complete w.start w.edges
    have ref : t.ref = monitor := by rw [same]
    have judged : monitor.state = r.nextState inside := rfl
    have counted : monitor.qualCount = if inside then r.nextQual else 0 := rfl
    refine ⟨t, monitor.state, monitor.qualCount, windowOffset w.edges, posting.map outputSaturation, done ▸ completion_taken is late,
      fun outside => ?_, fun within good => ?_, fun within other => ?_, roundAway_shape x (by decide), ref, fun c => ?_,
      once.map outputSaturation_injective, fun e member => ?_, ?_, ?_⟩
    · exact ⟨judged.trans (by rw [outside, nextState_outside]), counted.trans (by rw [outside]; rfl)⟩
    · exact ⟨judged.trans (by rw [within, nextState_of_good good]), counted.trans (by rw [within, if_pos rfl, nextQual_of_good good])⟩
    · have qual : monitor.qualCount = r.nextQual := counted.trans (by rw [within, if_pos rfl])
      refine ⟨qual.trans (nextQual_of_other other), fun enough => ?_, fun few => ?_⟩
      · exact judged.trans (by rw [within, nextState_of_enough (qual ▸ enough)])
      · exact judged.trans (by rw [within, nextState_of_few other (qual ▸ few)])
    · intro v lim value takes
      have clamp : clampTo v.timingSet.lim (windowOffset w.edges) = value := clampTo_eq _ _
      have taken : takes → t.circuit c = v.offsetTaken (windowOffset w.edges) := fun ⟨good, takes⟩ =>
        (circuit c).trans ((if_pos good).trans (afterOffset_of_takes takes _))
      refine ⟨fun not => ?_, fun is within => ?_, fun is acts => ?_, ?_⟩
      · rw [circuit c]
        split
        · next good => exact afterOffset_of_not (fun takes => not ⟨good, takes⟩) _
        · rfl
      · rw [taken is, offsetTaken_kept (clamp.trans within), clamp]
      · rw [taken is, offsetTaken_clamped (clamp ▸ acts), clamp]
      · refine (List.mem_map_of_injective outputSaturation_injective).trans ((who c).trans ?_)
        rw [Circuit.OffsetSaturates, clamp, ← and_assoc]
        rfl
    · obtain ⟨d, _, is⟩ := List.mem_map.mp member
      exact ⟨d, is.symm⟩
    · rw [same]
      rfl
    · rw [same]
  · have expires : exec .absenceExpiry s = .next ((s.setRef r.absent).posted (refChange r.state .absent)) :=
      congrArg Host.Outcome.next ((if_pos ((absenceDue_iff s).mpr ((hasRun_iff ..).mpr ⟨start, runs, passed⟩))).trans (postRefChange_eq ..))
    refine ⟨_, expires, rfl, fun same => ?_, fun differs => ?_⟩
    · exact congrArg s.attnAfter (if_pos same.symm)
    · exact congrArg s.attnAfter (if_neg (Ne.symm differs))

end Sys2Proof.Machine
end
